-- ==== Sys2Proof/Word.lean ====
section
/-! DEFINITION. The words of the model and the one shape of its sparse tables.

A byte of a link, of a staging buffer and of exchange memory is a `Byte`. Multi-byte quantities of a
request keep the width that the request layout gives them (R174). Indexes, counts, offsets and page
numbers are `Nat`.
-/

namespace Sys2Proof

/-- One byte of a frame, of a staging buffer or of exchange memory. -/
abbrev Byte := BitVec 8

/-- A sparse table: pairs of a key and a value in strictly rising order of the key. What an unlisted
key holds is said where the table is declared (`Machine/State.lean`); the operations on tables stand
in `Machine/Tables.lean`. -/
abbrev Table (α : Type) := List (Nat × α)

end Sys2Proof
end

