-- ==== Sys2Proof/Config.lean ====
section
/-! DEFINITION. What the part fixes (sizes and capacities the manual states) and the one value the
manual leaves open.

The open value is the judgement of a word disturbed in more than two bits (R100). It is a constant
with no body, so nothing can be proved of it beyond its type.
-/

namespace Sys2Proof

/-- The three outcomes the memory may judge a word read to have (R100). `corrected bit` names the bit
that the check bits located: a data bit when `bit < 64`, a check bit otherwise. -/
inductive Judgement where
  | clean
  | corrected (bit : Nat)
  | uncorrectable
  deriving DecidableEq, Repr, Inhabited

namespace Config

/-- R99: exchange memory holds 2048 pages. -/
def pageTotal : Nat := 2048
/-- R99: a page is 256 bytes. -/
def pageBytes : Nat := 256
/-- R99: exchange memory is 524,288 bytes. -/
def memoryBytes : Nat := 524288
/-- R99: exchange memory is 65,536 words of 8 bytes. -/
def wordTotal : Nat := 65536
/-- R1: the Window Table has entries 1 to 255. -/
def windowTotal : Nat := 255
/-- R43: a staging buffer has columns 0 to 511. -/
def stagingBytes : Nat := 512
/-- R25, R41 text of 2.3: a path from the root of a grant tree holds at most four views. -/
def treeDepth : Nat := 4
/-- R117: the Move Queue holds at most 8 requests in all. -/
def moveQueueTotal : Nat := 8
/-- R117: at most 4 requests of the Move Queue are of any one port. -/
def moveQueuePerPort : Nat := 4
/-- R123: a move runs in chunks of 64 bytes. -/
def chunkBytes : Nat := 64

/-- R100: a word disturbed in more than two bits "may be judged clean, corrected or uncorrectable, and
the part acts on whichever judgement the check bits give". The check bits' code is not given, so the
judgement is a free value: a function of the word's stored data bits and of the set of its disturbed
bits (assumption 4). -/
opaque multiBitJudgement : BitVec 64 → List Nat → Judgement

end Config

end Sys2Proof
end

