-- ==== Sys2Proof/Syntax.lean ====
section
/-! DEFINITION. The commands and events of the IL3460: one constructor of `Instr` per row of
spec/opcode_table.json, in the table's order.

The rows that travel as a frame carry the port they arrive on and the raw parameter fields of the
request layout (R174), so that a value outside its range reaches the block that owns the state and is
judged there, at the place the command's own checks give it. The rows that are events of the part, of
a pin or of the reference clock carry what the outside supplies: a level, a line, or the disturbances
that nature has worked on the stored bits (assumption 3).
-/

namespace Sys2Proof

/-- The three port links (R156). -/
inductive PortId where
  | pPort
  | nPort
  | aPort
  deriving DecidableEq, Repr

/-- One stored bit of exchange memory turned over by nature: a bit of a word, bits 0 to 63 being its
data bits (bit `8 * i + j` is bit `j` of its byte `i`) and every higher number one of its check bits,
whose count the manual does not give (assumption 3). -/
structure BitFlip where
  word : Nat
  bit : Nat
  deriving DecidableEq, Repr

/-- The parameters of PUT and FETCH (R47, R174). -/
structure TransferParams where
  selector : Byte
  bank : Byte
  offset : BitVec 16
  column : BitVec 16
  count : BitVec 16
  deriving DecidableEq, Repr

/-- The parameters of MOVE (R118, R174). -/
structure MoveParams where
  srcSelector : Byte
  srcBank : Byte
  srcOffset : BitVec 16
  dstSelector : Byte
  dstBank : Byte
  dstOffset : BitVec 16
  count : BitVec 24
  mode : Byte
  fillUnit : Byte
  reference : Byte
  deriving DecidableEq, Repr

/-- The parameters of OPEN WINDOW (R12, R174). -/
structure OpenParams where
  cls : Byte
  unit : Byte
  bankCount : Byte
  length0 : BitVec 24
  length1 : BitVec 24
  lifetime : BitVec 16
  line : Byte
  action : Byte
  deriving DecidableEq, Repr

/-- The commands and events, one constructor per row of spec/opcode_table.json. -/
inductive Instr where
  /-- READ_STATUS (R162). -/
  | readStatus (port : PortId)
  /-- READ_NOTICE (R164). -/
  | readNotice (port : PortId)
  /-- PORT_RESET (R166). -/
  | portReset (port : PortId)
  /-- LOAD_STAGING (R44). -/
  | loadStaging (port : PortId) (column count : BitVec 16) (payload : List Byte)
  /-- READ_STAGING (R45). -/
  | readStaging (port : PortId) (column count : BitVec 16)
  /-- CLEAR_STAGING (R46). -/
  | clearStaging (port : PortId)
  /-- PUT (R47, R48). -/
  | put (port : PortId) (params : TransferParams)
  /-- FETCH (R47, R48). -/
  | fetch (port : PortId) (params : TransferParams)
  /-- MOVE (R118). -/
  | move (port : PortId) (params : MoveParams)
  /-- OPEN_WINDOW (R12, R13). -/
  | openWindow (port : PortId) (params : OpenParams)
  /-- GRANT_VIEW (R29). -/
  | grantView (port : PortId) (selector target rights : Byte)
  /-- NARROW_VIEW (R32). -/
  | narrowView (port : PortId) (selector target targetSelector rights : Byte)
  /-- DROP_VIEW (R39). -/
  | dropView (port : PortId) (selector : Byte)
  /-- DESCRIBE_VIEW (R40). -/
  | describeView (port : PortId) (selector : Byte)
  /-- RETIRE_WINDOW (R82). -/
  | retireWindow (port : PortId) (selector : Byte)
  /-- RENEW (R18). -/
  | renew (port : PortId) (selector : Byte) (ticks : BitVec 16)
  /-- STAGE_LIMIT (R74). -/
  | stageLimit (port : PortId) (selector : Byte) (limit : BitVec 24)
  /-- SWAP_BANKS (R69). -/
  | swapBanks (port : PortId) (selector : Byte)
  /-- SELECT_APP (R134). -/
  | selectApp (port : PortId) (slot : Byte)
  /-- OPEN_SLOT (R136). -/
  | openSlot (port : PortId) (slot : Byte)
  /-- CLOSE_SLOT (R137). -/
  | closeSlot (port : PortId) (slot : Byte)
  /-- SET_POOLS (R172). -/
  | setPools (port : PortId) (nReserve pReserve : BitVec 16)
  /-- SET_QUOTA (R172). -/
  | setQuota (port : PortId) (cls windows : Byte) (pages : BitVec 16)
  /-- SET_LINE (R172). -/
  | setLine (port : PortId) (line role mode : Byte)
  /-- LOCK_POLICY (R173). -/
  | lockPolicy (port : PortId)
  /-- CLEAR_TAMPER (R153). -/
  | clearTamper (port : PortId)
  /-- FRAME_REJECTED (R158): the bytes of one select window, from the command code on. -/
  | frameRejected (port : PortId) (bytes : List Byte)
  /-- FRAME_DISCARDED (R157): the bytes that had arrived when CS_N rose. -/
  | frameDiscarded (port : PortId) (bytes : List Byte)
  /-- DEVICE_RESET (R169): bit `n` of `levels` is the level that line `n` presents when the reset
  ends; `flips` is what the reset has done to the stored bits (R99: contents unknown). -/
  | deviceReset (levels : BitVec 8) (flips : List BitFlip)
  /-- STARTUP_SCRUB_GRANT (R170). -/
  | startupScrubGrant
  /-- STARTUP_PAGE_RELEASE (R170). -/
  | startupPageRelease
  /-- SCRUB_END (R170). -/
  | scrubEnd
  /-- PUT_GRANT (R52). -/
  | putGrant (port : PortId) (flips : List BitFlip)
  /-- FETCH_GRANT (R53). -/
  | fetchGrant (port : PortId) (flips : List BitFlip)
  /-- TRANSFER_COMPLETION (R55). -/
  | transferCompletion (port : PortId)
  /-- MOVE_TAKE_HEAD (R120). -/
  | moveTakeHead
  /-- START_CHECK (R121). -/
  | startCheck
  /-- FILL_PATTERN_READ (R124). -/
  | fillPatternRead (flips : List BitFlip)
  /-- CHUNK_CHECK (R125). -/
  | chunkCheck
  /-- MOVE_CHUNK_GRANT (R126). -/
  | moveChunkGrant (flips : List BitFlip)
  /-- MOVE_END (R127). -/
  | moveEnd
  /-- RETIRE_TAKE_HEAD (R87). -/
  | retireTakeHead
  /-- SWEEP (R88). -/
  | sweep
  /-- PAGE_SCRUB_GRANT (R89). -/
  | pageScrubGrant
  /-- PAGE_RELEASE (R89). -/
  | pageRelease
  /-- WINDOW_FREEING (R90). -/
  | windowFreeing
  /-- LINE_EDGE (R144): the level that the line now presents, high being `true`. -/
  | lineEdge (line : Fin 8) (level : Bool)
  /-- LINE_EVENT (R146). -/
  | lineEvent (line : Fin 8)
  /-- TAMPER_LINE_EVENT (R151). -/
  | tamperLineEvent (line : Fin 8)
  /-- TICK_EMIT (R148). -/
  | tickEmit
  /-- TICK (R149). -/
  | tick
  /-- LIFETIME_EXPIRY (R17): the tick event that ends the lifetime of the window of this index. -/
  | lifetimeExpiry (window : Nat)
  deriving DecidableEq, Repr

end Sys2Proof
end

