-- ==== Sys2Proof/Decode.lean ====
section
/-! DEFINITION. The request frames of a port link: the frame check (R157), the judgement of a complete
request (R158, steps 1 to 3), the layout of every request (R174), and after them the encoder of a
command's request.

No row of spec/opcode_table.json gives bits, so `decodeTableWord` answers `none` for every word. The
bytes of a frame are numbered in the order in which they cross the link.
-/

namespace Sys2Proof

/-- One step of the division by x^16 + x^12 + x^5 + 1, most significant bit first (R157). -/
def Frame.crcBit (crc : BitVec 16) : BitVec 16 :=
  if crc.msb then (crc <<< 1) ^^^ 0x1021#16 else crc <<< 1

/-- The frame check after one more byte, most significant bit first (R157). -/
def Frame.crcByte (crc : BitVec 16) (b : Byte) : BitVec 16 :=
  let c := crc ^^^ (b.setWidth 16 <<< 8)
  (List.range 8).foldl (fun c _ => crcBit c) c

/-- The frame check of a run of bytes: initial value FFFFh, no final value (R157). -/
def Frame.crc16 (bytes : List Byte) : BitVec 16 :=
  bytes.foldl crcByte 0xFFFF#16

/-- A two-byte field, high byte first (chapter 12). -/
def Frame.bytes2 (x : BitVec 16) : List Byte :=
  [x.extractLsb' 8 8, x.extractLsb' 0 8]

/-- A three-byte field, high byte first (chapter 12). -/
def Frame.bytes3 (x : BitVec 24) : List Byte :=
  [x.extractLsb' 16 8, x.extractLsb' 8 8, x.extractLsb' 0 8]

/-- A four-byte field, high byte first (chapter 12). -/
def Frame.bytes4 (x : BitVec 32) : List Byte :=
  [x.extractLsb' 24 8, x.extractLsb' 16 8, x.extractLsb' 8 8, x.extractLsb' 0 8]

/-- The value of a two-byte field (chapter 12). -/
def Frame.word2 (hi lo : Byte) : BitVec 16 := hi ++ lo

/-- The value of a three-byte field (chapter 12). -/
def Frame.word3 (hi mid lo : Byte) : BitVec 24 := (hi ++ mid : BitVec 16) ++ lo

/-- What the judgement of a select window's bytes gives (R157, R158): nothing to judge yet, the answer
FRAME, the answer UNKNOWN, or the command that is taken. -/
inductive Verdict where
  | incomplete
  | frame
  | unknown
  | taken (i : Instr)
  deriving DecidableEq, Repr

/-- The verdict on a body of fixed size: the command, or FRAME where the length is another (R158,
step 3). -/
def Frame.fixed (i : Option Instr) : Verdict :=
  match i with
  | some i => .taken i
  | none => .frame

/-- A request without parameters (R174). -/
def Frame.body0 (i : Instr) : List Byte → Option Instr
  | [] => some i
  | _ => none

/-- A request with one parameter byte (R174). -/
def Frame.body1 (f : Byte → Instr) : List Byte → Option Instr
  | [b] => some (f b)
  | _ => none

/-- The column and the count of READ STAGING (R174). -/
def Frame.bodyReadStaging (p : PortId) : List Byte → Option Instr
  | [c1, c0, n1, n0] => some (.readStaging p (word2 c1 c0) (word2 n1 n0))
  | _ => none

/-- The column, the count and the payload of LOAD STAGING: the payload is as long as the count says
(R158, step 3; R174). -/
def Frame.bodyLoadStaging (p : PortId) : List Byte → Option Instr
  | c1 :: c0 :: n1 :: n0 :: payload =>
    if payload.length = (word2 n1 n0).toNat then
      some (.loadStaging p (word2 c1 c0) (word2 n1 n0) payload)
    else none
  | _ => none

/-- The parameters of PUT and FETCH (R174). -/
def Frame.bodyTransfer (f : TransferParams → Instr) : List Byte → Option Instr
  | [s, b, o1, o0, c1, c0, n1, n0] =>
    some (f ⟨s, b, word2 o1 o0, word2 c1 c0, word2 n1 n0⟩)
  | _ => none

/-- The parameters of MOVE (R174). -/
def Frame.bodyMove (p : PortId) : List Byte → Option Instr
  | [ss, sb, so1, so0, ds, db, do1, do0, n2, n1, n0, m, u, r] =>
    some (.move p ⟨ss, sb, word2 so1 so0, ds, db, word2 do1 do0, word3 n2 n1 n0, m, u, r⟩)
  | _ => none

/-- The parameters of OPEN WINDOW (R174). -/
def Frame.bodyOpenWindow (p : PortId) : List Byte → Option Instr
  | [c, u, k, a2, a1, a0, b2, b1, b0, t1, t0, l, x] =>
    some (.openWindow p ⟨c, u, k, word3 a2 a1 a0, word3 b2 b1 b0, word2 t1 t0, l, x⟩)
  | _ => none

/-- The parameters of GRANT VIEW (R174). -/
def Frame.bodyGrantView (p : PortId) : List Byte → Option Instr
  | [s, t, r] => some (.grantView p s t r)
  | _ => none

/-- The parameters of NARROW VIEW (R174). -/
def Frame.bodyNarrowView (p : PortId) : List Byte → Option Instr
  | [s, t, ts, r] => some (.narrowView p s t ts r)
  | _ => none

/-- The parameters of RENEW (R174). -/
def Frame.bodyRenew (p : PortId) : List Byte → Option Instr
  | [s, t1, t0] => some (.renew p s (word2 t1 t0))
  | _ => none

/-- The parameters of STAGE LIMIT (R174). -/
def Frame.bodyStageLimit (p : PortId) : List Byte → Option Instr
  | [s, l2, l1, l0] => some (.stageLimit p s (word3 l2 l1 l0))
  | _ => none

/-- The parameters of SET POOLS (R174). -/
def Frame.bodySetPools (p : PortId) : List Byte → Option Instr
  | [n1, n0, r1, r0] => some (.setPools p (word2 n1 n0) (word2 r1 r0))
  | _ => none

/-- The parameters of SET QUOTA (R174). -/
def Frame.bodySetQuota (p : PortId) : List Byte → Option Instr
  | [c, w, g1, g0] => some (.setQuota p c w (word2 g1 g0))
  | _ => none

/-- The parameters of SET LINE (R174). -/
def Frame.bodySetLine (p : PortId) : List Byte → Option Instr
  | [l, r, m] => some (.setLine p l r m)
  | _ => none

/-- Steps 2 and 3 of the judgement (R158) by the request table (R174): UNKNOWN for a code that the
port does not know, FRAME for a length that is not the command's. The codes 30h to 32h are known to
the A-port alone. -/
def Frame.commandOf (p : PortId) (code : Nat) (body : List Byte) : Verdict :=
  match code with
  | 0x01 => fixed (body0 (.readStatus p) body)
  | 0x02 => fixed (body0 (.readNotice p) body)
  | 0x03 => fixed (body0 (.portReset p) body)
  | 0x08 => fixed (bodyLoadStaging p body)
  | 0x09 => fixed (bodyReadStaging p body)
  | 0x0A => fixed (body0 (.clearStaging p) body)
  | 0x10 => fixed (bodyTransfer (.put p) body)
  | 0x11 => fixed (bodyTransfer (.fetch p) body)
  | 0x12 => fixed (bodyMove p body)
  | 0x20 => fixed (bodyOpenWindow p body)
  | 0x21 => fixed (bodyGrantView p body)
  | 0x22 => fixed (bodyNarrowView p body)
  | 0x23 => fixed (body1 (.dropView p) body)
  | 0x24 => fixed (body1 (.describeView p) body)
  | 0x25 => fixed (body1 (.retireWindow p) body)
  | 0x26 => fixed (bodyRenew p body)
  | 0x27 => fixed (bodyStageLimit p body)
  | 0x28 => fixed (body1 (.swapBanks p) body)
  | 0x30 => if p = .aPort then fixed (body1 (.selectApp p) body) else .unknown
  | 0x31 => if p = .aPort then fixed (body1 (.openSlot p) body) else .unknown
  | 0x32 => if p = .aPort then fixed (body1 (.closeSlot p) body) else .unknown
  | 0x38 => fixed (bodySetPools p body)
  | 0x39 => fixed (bodySetQuota p body)
  | 0x3A => fixed (bodySetLine p body)
  | 0x3B => fixed (body0 (.lockPolicy p) body)
  | 0x3C => fixed (body0 (.clearTamper p) body)
  | _ => .unknown

/-- The judgement of the bytes of one select window on port `p` (R157, R158 steps 1 to 3): the stated
length tells where the request ends, the second check byte is the moment of judgement, and bytes
clocked past it have no effect on the judgement, which is the model's reading of R159 (assumption 19). -/
def Frame.judge (p : PortId) (bytes : List Byte) : Verdict :=
  match bytes with
  | code :: l1 :: l0 :: rest =>
    let length := (word2 l1 l0).toNat
    let body := rest.take length
    match rest.drop length with
    | k1 :: k0 :: _ =>
      if word2 k1 k0 = crc16 (code :: l1 :: l0 :: body) then commandOf p code.toNat body
      else .frame
    | _ => .incomplete
  | _ => .incomplete

/-- The command word that the table's bits spell: no row of spec/opcode_table.json gives bits, so no
word spells a command. -/
def decodeTableWord (_nbits _w : Nat) : Option Instr := none

/-! ### The encoder -/

/-- The port, the command code and the parameter and payload bytes of a command's request (R174).
`none` for an event, which no frame carries. -/
def Instr.request : Instr → Option (PortId × Byte × List Byte)
  | .readStatus p => some (p, 0x01#8, [])
  | .readNotice p => some (p, 0x02#8, [])
  | .portReset p => some (p, 0x03#8, [])
  | .loadStaging p column count payload =>
    some (p, 0x08#8, Frame.bytes2 column ++ Frame.bytes2 count ++ payload)
  | .readStaging p column count => some (p, 0x09#8, Frame.bytes2 column ++ Frame.bytes2 count)
  | .clearStaging p => some (p, 0x0A#8, [])
  | .put p a =>
    some (p, 0x10#8, [a.selector, a.bank] ++ Frame.bytes2 a.offset ++ Frame.bytes2 a.column
      ++ Frame.bytes2 a.count)
  | .fetch p a =>
    some (p, 0x11#8, [a.selector, a.bank] ++ Frame.bytes2 a.offset ++ Frame.bytes2 a.column
      ++ Frame.bytes2 a.count)
  | .move p a =>
    some (p, 0x12#8, [a.srcSelector, a.srcBank] ++ Frame.bytes2 a.srcOffset
      ++ [a.dstSelector, a.dstBank] ++ Frame.bytes2 a.dstOffset ++ Frame.bytes3 a.count
      ++ [a.mode, a.fillUnit, a.reference])
  | .openWindow p a =>
    some (p, 0x20#8, [a.cls, a.unit, a.bankCount] ++ Frame.bytes3 a.length0
      ++ Frame.bytes3 a.length1 ++ Frame.bytes2 a.lifetime ++ [a.line, a.action])
  | .grantView p selector target rights => some (p, 0x21#8, [selector, target, rights])
  | .narrowView p selector target targetSelector rights =>
    some (p, 0x22#8, [selector, target, targetSelector, rights])
  | .dropView p selector => some (p, 0x23#8, [selector])
  | .describeView p selector => some (p, 0x24#8, [selector])
  | .retireWindow p selector => some (p, 0x25#8, [selector])
  | .renew p selector ticks => some (p, 0x26#8, selector :: Frame.bytes2 ticks)
  | .stageLimit p selector limit => some (p, 0x27#8, selector :: Frame.bytes3 limit)
  | .swapBanks p selector => some (p, 0x28#8, [selector])
  | .selectApp p slot => some (p, 0x30#8, [slot])
  | .openSlot p slot => some (p, 0x31#8, [slot])
  | .closeSlot p slot => some (p, 0x32#8, [slot])
  | .setPools p nReserve pReserve =>
    some (p, 0x38#8, Frame.bytes2 nReserve ++ Frame.bytes2 pReserve)
  | .setQuota p cls windows pages => some (p, 0x39#8, [cls, windows] ++ Frame.bytes2 pages)
  | .setLine p line role mode => some (p, 0x3A#8, [line, role, mode])
  | .lockPolicy p => some (p, 0x3B#8, [])
  | .clearTamper p => some (p, 0x3C#8, [])
  | .frameRejected _ _ => none
  | .frameDiscarded _ _ => none
  | .deviceReset _ _ => none
  | .startupScrubGrant => none
  | .startupPageRelease => none
  | .scrubEnd => none
  | .putGrant _ _ => none
  | .fetchGrant _ _ => none
  | .transferCompletion _ => none
  | .moveTakeHead => none
  | .startCheck => none
  | .fillPatternRead _ => none
  | .chunkCheck => none
  | .moveChunkGrant _ => none
  | .moveEnd => none
  | .retireTakeHead => none
  | .sweep => none
  | .pageScrubGrant => none
  | .pageRelease => none
  | .windowFreeing => none
  | .lineEdge _ _ => none
  | .lineEvent _ => none
  | .tamperLineEvent _ => none
  | .tickEmit => none
  | .tick => none
  | .lifetimeExpiry _ => none

/-- A request with its length and its frame check, as it crosses the link (R157). -/
def Frame.ofRequest (code : Byte) (body : List Byte) : List Byte :=
  let head := code :: (bytes2 (BitVec.ofNat 16 body.length) ++ body)
  head ++ bytes2 (crc16 head)

/-- The frame that carries a command (R157, R174). -/
def Instr.frame (i : Instr) : Option (List Byte) :=
  i.request.map fun r => Frame.ofRequest r.2.1 r.2.2

end Sys2Proof
end

