-- ==== Sys2Proof/Machine/State.lean ====
section
/-! DEFINITION. The state of the part, block by block as the manual's block overview lists it, the
reasons a step can stop, and the state after device reset.

Where a table is sparse, the comment on its field says what an unlisted key holds.
-/

namespace Sys2Proof.Machine

/-! ### Enumerated values -/

/-- The result codes (R175), the complete set. -/
inductive ResultCode where
  | ok
  | accepted
  | frame
  | unknown
  | busy
  | notReady
  | badArg
  | nullSelector
  | stale
  | rights
  | limit
  | align
  | windowBusy
  | classRefused
  | duplicate
  | noSelector
  | depth
  | notAncestor
  | notOwner
  | holderClosed
  | quota
  | noSpace
  | noWindow
  | queueFull
  | tampered
  | locked
  | dataError
  | aborted
  deriving DecidableEq, Repr

/-- The 34 holders (R21): P, N, and the A-holder of slot 0 (the A-system) to slot 31. -/
inductive Holder where
  | payment
  | radio
  | app (slot : Fin 32)
  deriving DecidableEq, Repr

/-- The class of a window (R3). -/
inductive WindowClass where
  | common
  | guarded
  deriving DecidableEq, Repr

/-- The state of a Window Table entry that is not FREE (R8); a FREE entry is an unlisted index. -/
inductive WindowState where
  | live
  | draining
  | queued
  | clearing
  deriving DecidableEq, Repr

/-- The source of a bank exchange (R67, R68). -/
inductive SwapSource where
  | holder
  | line
  deriving DecidableEq, Repr

/-- The action of a binding (R19). -/
inductive BindingAction where
  | retire
  | swap
  deriving DecidableEq, Repr

/-- The cause of a retirement (R10, R80). -/
inductive RetireCause where
  | owner
  | forced
  | expired
  | line
  | tamper
  | slotClosed
  deriving DecidableEq, Repr

/-- The cause carried by VIEW_VOIDED (R38). -/
inductive VoidCause where
  | retired
  | parentVoided
  | narrowedToNone
  deriving DecidableEq, Repr

/-- A bank number (R64). -/
inductive BankNo where
  | zero
  | one
  deriving DecidableEq, Repr

/-- The word by which a command names a bank (R6, R64). -/
inductive BankName where
  | live
  | shadow
  deriving DecidableEq, Repr

/-- The state of an app slot (R132). -/
inductive SlotState where
  | closed
  | opened
  | closing
  deriving DecidableEq, Repr

/-- The device phase (R169 to R173). -/
inductive DevicePhase where
  | starting
  | configuring
  | running
  deriving DecidableEq, Repr

/-- The role of an event line (R171). -/
inductive LineRole where
  | unused
  | bindable
  | tamper
  deriving DecidableEq, Repr

/-- The edge mode of an event line (R144). -/
inductive EdgeMode where
  | rising
  | falling
  | either
  deriving DecidableEq, Repr

/-- The state of a port (R160). -/
inductive PortState where
  | notReady
  | idle
  | executing
  | resetting
  deriving DecidableEq, Repr

/-- The kinds of notice (R163, R176). -/
inductive NoticeKind where
  | none
  | viewGranted
  | viewNarrowed
  | viewVoided
  | swapDone
  | windowDamaged
  | moveDone
  | retireDone
  | slotClosed
  | tamper
  deriving DecidableEq, Repr

/-- The five requesters of the XM arbiter (R113). -/
inductive Requester where
  | port (p : PortId)
  | moveEngine
  | retireEngine
  deriving DecidableEq, Repr

/-! ### The Directory Controller -/

/-- One bank of a window (R5). -/
structure Bank where
  firstPage : Nat
  pageCount : Nat
  limit : Nat
  deriving DecidableEq, Repr

/-- The binding of a window to an event line (R19). -/
structure Binding where
  line : Nat
  action : BindingAction
  deriving DecidableEq, Repr

/-- A Window Table entry that is not FREE (R2). The bank count is 2 exactly when `bank1` is present. -/
structure Window where
  state : WindowState
  owner : Holder
  cls : WindowClass
  unit : Nat
  bank0 : Bank
  bank1 : Option Bank
  live : BankNo
  swapPending : Option SwapSource
  inFlight : Nat
  pinned : Bool
  lifetime : Option Nat
  binding : Option Binding
  damaged : Bool
  cause : Option RetireCause
  deriving DecidableEq, Repr

/-- A set of rights (R24). -/
structure Rights where
  read : Bool
  write : Bool
  grant : Bool
  swap : Bool
  deriving DecidableEq, Repr

/-- The place of a view in the View Table: a holder and one of its selectors (R22). -/
structure ViewId where
  holder : Holder
  selector : Nat
  deriving DecidableEq, Repr

/-- A VALID View Table entry (R23); it is a root exactly when `parent` is absent, and the root flag is
held as the manual gives it. -/
structure View where
  window : Nat
  rights : Rights
  root : Bool
  parent : Option ViewId
  depth : Nat
  deriving DecidableEq, Repr

/-- The Directory Controller's state. -/
structure Directory where
  /-- The Window Table (R1), keyed by index 1 to 255; an unlisted index is FREE. -/
  windows : Table Window
  /-- The View Table (R22, R23), keyed by holder code × 32 + selector, which is its order; an unlisted
  key is VOID. -/
  views : Table View
  /-- The slot table (R132), keyed by slot 1 to 31; an unlisted slot is CLOSED. -/
  slots : Table SlotState
  /-- The tamper latch (R152). -/
  tamper : Bool
  deriving DecidableEq, Repr

/-! ### The ports -/

/-- A notice (R163, R176); `a0` to `a3` are the bytes of value A, `b` is value B. -/
structure Notice where
  kind : NoticeKind
  holder : Holder
  selector : Nat
  code : ResultCode
  a0 : Byte
  a1 : Byte
  a2 : Byte
  a3 : Byte
  b : BitVec 32
  deriving DecidableEq, Repr

/-- The last result of a port (R56). -/
structure LastResult where
  code : ResultCode
  bytes : Nat
  corrected : Nat
  uncorrectable : Nat
  deriving DecidableEq, Repr

/-- The two kinds of transfer (R49). -/
inductive TransferKind where
  | put
  | fetch
  deriving DecidableEq, Repr

/-- An admitted transfer (R49). -/
structure Transfer where
  kind : TransferKind
  window : Nat
  bank : BankNo
  offset : Nat
  column : Nat
  count : Nat
  deriving DecidableEq, Repr

/-- The completion that a port has sent to the Directory and that is not yet taken (R51, R55). -/
structure Completion where
  corrected : Nat
  uncorrectable : Nat
  deriving DecidableEq, Repr

/-- The response that a port drives: the result byte's code and the detail bytes (R159, R175). -/
structure Response where
  code : ResultCode
  detail : List Byte
  deriving DecidableEq, Repr

/-- One port interface. -/
structure Port where
  /-- The port state (R160). -/
  state : PortState
  /-- The staging buffer (R43), keyed by column 0 to 511; an unlisted column holds zero. -/
  staging : Table Byte
  /-- The guarded mark (R43, R54). -/
  mark : Bool
  /-- The last result (R56). -/
  last : LastResult
  /-- The notice queue, oldest first (R163). -/
  notices : List Notice
  /-- The notices-lost flag (R163). -/
  lost : Bool
  /-- The admitted transfer, absent when none is in flight (R49). -/
  transfer : Option Transfer
  /-- The completion sent and not yet taken, absent until the grant (R51). -/
  completion : Option Completion
  /-- The response driven in the port's latest select window, absent when it drove none (R159;
  assumption 6). -/
  response : Option Response
  deriving DecidableEq, Repr

/-- The three port interfaces and the A-port's acting slot (R131). -/
structure Ports where
  p : Port
  n : Port
  a : Port
  acting : Fin 32
  deriving DecidableEq, Repr

/-! ### The Page Allocator, exchange memory and the arbiter -/

/-- The state of a page map entry (R102). -/
inductive PageState where
  | free
  | allocated (window : Nat) (bank : BankNo)
  | scrubbing
  deriving DecidableEq, Repr

/-- The two quota counters of a holder (R110). -/
structure Counter where
  windows : Nat
  pages : Nat
  deriving DecidableEq, Repr

/-- The Page Allocator's state. -/
structure Allocator where
  /-- The page map (R102), keyed by page 0 to 2047; an unlisted page is SCRUBBING. -/
  pages : Table PageState
  /-- The quota counters (R110), keyed by holder code; an unlisted holder has both at 0. -/
  counters : Table Counter
  deriving DecidableEq, Repr

/-- Exchange memory (R99, R100): the stored data bits, and for each word the set of its stored bits
that nature has turned over since the word was written, which is what its check bits can tell. -/
structure Memory where
  /-- The stored bytes, keyed by memory address 0 to 524,287; an unlisted address reads as zero
  (assumption 5). -/
  cells : List Host.Cell
  /-- The disturbed bits of each word, rising, keyed by word 0 to 65,535; an unlisted word has none. -/
  errors : Table (List Nat)
  deriving DecidableEq, Repr

/-! ### The Move Engine -/

/-- The mode of a move, with the fill unit that FILL alone has (R117). -/
inductive MoveMode where
  | copy
  | fill (unit : Nat)
  | descend
  deriving DecidableEq, Repr

/-- The resolved record of a started move (R117, R121). -/
structure Resolved where
  srcWindow : Nat
  srcBank : BankNo
  dstWindow : Nat
  dstBank : BankNo
  deriving DecidableEq, Repr

/-- A request of the Move Queue (R117). Its requester port is the port that serves its requester. -/
structure MoveRequest where
  requester : Holder
  reference : Byte
  srcSelector : Nat
  srcBank : BankName
  srcOffset : Nat
  dstSelector : Nat
  dstBank : BankName
  dstOffset : Nat
  count : Nat
  mode : MoveMode
  progress : Nat
  running : Bool
  resolved : Option Resolved
  resetMark : Bool
  closeMark : Bool
  deriving DecidableEq, Repr

/-- The state of the Move Engine (R120); at MOVE_END it keeps whether the move read an uncorrectable
source word. -/
inductive MoveState where
  | idle
  | startCheck
  | pattern
  | chunkCheck
  | chunkGrant
  | moveEnd (dataError : Bool)
  deriving DecidableEq, Repr

/-- The Move Engine's state. -/
structure MoveEngine where
  /-- The Move Queue, head first (R117). -/
  queue : List MoveRequest
  /-- The engine's state (R120). -/
  state : MoveState
  /-- The corrected word count of the running move (R126); 0 while no move runs, which is the model's
  choice (assumption 22). -/
  corrected : Nat
  /-- The fill-pattern store (R124), keyed by byte 0 to 7; an unlisted byte is zero. -/
  pattern : Table Byte
  deriving DecidableEq, Repr

/-! ### The Retire Engine -/

/-- Where the engine stands with one page (R89, R170): the request for it not yet made, waiting for
the arbiter, or scrubbed with its release not yet taken by the Page Allocator. -/
inductive ScrubStage where
  | toRequest
  | requested
  | scrubbed
  deriving DecidableEq, Repr

/-- The current-window record (R86). Before the sweep its root selector and its damaged flag are 0 and
clear, which is the model's choice (assumption 20). -/
structure RetireRecord where
  window : Nat
  owner : Holder
  cause : RetireCause
  rootSelector : Nat
  damaged : Bool
  bank : BankNo
  page : Nat
  deriving DecidableEq, Repr

/-- The state of the Retire Engine (R86). SCRUBBING ends with the freeing asked of the Directory
(`freeing`, R90). -/
inductive RetireState where
  | startUp (page : Nat) (stage : ScrubStage)
  | idle
  | sweeping (record : RetireRecord)
  | scrubbing (record : RetireRecord) (stage : ScrubStage)
  | freeing (record : RetireRecord)
  deriving DecidableEq, Repr

/-- The Retire Engine's state. -/
structure RetireEngine where
  /-- The Retire Queue, head first (R85). -/
  queue : List Nat
  /-- The engine's state and its record (R86). -/
  state : RetireState
  /-- The end of the start-up scrub has been reported and not yet taken (R170). -/
  endReport : Bool
  deriving DecidableEq, Repr

/-! ### The Event Unit and the Policy Store -/

/-- A line event delivered to the Directory (R145). -/
structure LineEvent where
  line : Nat
  role : LineRole
  deriving DecidableEq, Repr

/-- The Event Unit's state. -/
structure EventUnit where
  /-- The previous level of each edge detector (R144), keyed by line 0 to 7, high being `true`; an
  unlisted line is low. -/
  levels : Table Bool
  /-- The line events delivered and not yet taken, in the order of delivery (R145). -/
  lineEvents : List LineEvent
  /-- The tick divider (R148): cycles of REFCLK counted since it last expired or restarted. The time
  between two events is not modelled, so it is seen here only restarted (assumption 15). -/
  divider : Nat
  /-- The number of ticks sent and not yet taken (R148). -/
  ticks : Nat
  deriving DecidableEq, Repr

/-- A quota pair (R110). -/
structure Quota where
  windows : Nat
  pages : Nat
  deriving DecidableEq, Repr

/-- The role and the edge mode of a line (R171). -/
structure LineConfig where
  role : LineRole
  mode : EdgeMode
  deriving DecidableEq, Repr

/-- The Policy Store's state (R171). -/
structure Policy where
  phase : DevicePhase
  nReserve : Nat
  pReserve : Nat
  quotaP : Quota
  quotaN : Quota
  quotaSystem : Quota
  quotaApp : Quota
  /-- Keyed by line 0 to 7; an unlisted line has role UNUSED and mode RISING. -/
  lines : Table LineConfig
  deriving DecidableEq, Repr

/-! ### The whole part -/

/-- The state of the part, and the commands and events that wait for it. -/
structure State where
  /-- The commands and events waiting, first in, first out. -/
  pending : List Instr
  ports : Ports
  dir : Directory
  alloc : Allocator
  xm : Memory
  /-- The requester that the XM arbiter granted last (R113); which requests wait is read from the
  ports and the engines that make them. -/
  lastGranted : Requester
  move : MoveEngine
  retire : RetireEngine
  events : EventUnit
  policy : Policy
  deriving DecidableEq, Repr

/-- Why a step stops with a fault. -/
inductive Fault where
  /-- Raised by a grant whose transfer addresses a byte outside exchange memory, or a window or bank
  that the Window Table does not hold. No run from device reset raises it (R51, R103, R122). Safe. -/
  | noSuchAddress
  deriving DecidableEq, Repr

/-- Why a step is refused. -/
inductive Refusal where
  /-- Raised by `exec` for a row of the table that has no meaning yet; no row is left so. Safe. -/
  | notModelled (mnemonic : String)
  deriving DecidableEq, Repr

/-- What one step answers. -/
abbrev Result := Host.Outcome State Fault Refusal

/-! ### After device reset -/

/-- R56: OK with all three counts 0. -/
def LastResult.initial : LastResult := ⟨.ok, 0, 0, 0⟩

/-- A port after device reset (R160). -/
def Port.reset : Port where
  state := .notReady
  staging := []
  mark := false
  last := LastResult.initial
  notices := []
  lost := false
  transfer := none
  completion := none
  response := none

/-- The default policy (R171; the quota limits of R110). -/
def Policy.reset : Policy where
  phase := .starting
  nReserve := 0
  pReserve := 0
  quotaP := ⟨255, 2048⟩
  quotaN := ⟨96, 1024⟩
  quotaSystem := ⟨32, 512⟩
  quotaApp := ⟨6, 64⟩
  lines := []

/-- The part right after device reset (R169), with no command waiting, every event line low and every
stored byte zero with nothing disturbed (assumption 5), no response driven (assumption 6), the tick
divider at 0 (assumption 15), and the corrected word count at 0 (assumption 22). -/
def State.reset : State where
  pending := []
  ports := ⟨Port.reset, Port.reset, Port.reset, 0⟩
  dir := ⟨[], [], [], false⟩
  alloc := ⟨[], []⟩
  xm := ⟨[], []⟩
  lastGranted := .retireEngine
  move := ⟨[], .idle, 0, []⟩
  retire := ⟨[], .startUp 0 .toRequest, false⟩
  events := ⟨[], [], 0, 0⟩
  policy := Policy.reset

end Sys2Proof.Machine
end

