-- ==== Sys2Proof/Machine/Tables.lean ====
section
/-! DEFINITION. The operations on sparse tables, and their canonical form: strictly rising keys, and
no entry equal to what an unlisted key holds.
-/

namespace Sys2Proof

/-- The value listed for a key. -/
def Table.at? {α : Type} (t : Table α) (k : Nat) : Option α :=
  match t with
  | [] => none
  | (j, v) :: rest => if j = k then some v else Table.at? rest k

/-- The value a key holds, `d` being what an unlisted key holds. -/
def Table.value {α : Type} (d : α) (t : Table α) (k : Nat) : α := (Table.at? t k).getD d

/-- The table with `v` listed for `k`. -/
def Table.put {α : Type} (t : Table α) (k : Nat) (v : α) : Table α :=
  match t with
  | [] => [(k, v)]
  | (j, w) :: rest =>
    if k < j then (k, v) :: (j, w) :: rest
    else if j = k then (k, v) :: rest
    else (j, w) :: Table.put rest k v

/-- The table with nothing listed for `k`. -/
def Table.remove {α : Type} (t : Table α) (k : Nat) : Table α := t.filter fun e => e.1 != k

/-- The table in which `k` holds `v`, `d` being what an unlisted key holds. -/
def Table.store {α : Type} [DecidableEq α] (d : α) (t : Table α) (k : Nat) (v : α) : Table α :=
  if v = d then Table.remove t k else Table.put t k v

/-- The table with nothing listed for the `n` keys from `lo` on. -/
def Table.clearRun {α : Type} (t : Table α) (lo n : Nat) : Table α :=
  t.filter fun e => !(decide (lo ≤ e.1) && decide (e.1 < lo + n))

/-- The table in which the keys from `k` on hold the values of a list in order. -/
def Table.writeRun {α : Type} [DecidableEq α] (d : α) (t : Table α) (k : Nat) : List α → Table α
  | [] => t
  | v :: vs => Table.writeRun d (Table.store d t k v) (k + 1) vs

/-- The values of the `n` keys from `k` on. -/
def Table.readRun {α : Type} (d : α) (t : Table α) (k n : Nat) : List α :=
  (List.range n).map fun i => Table.value d t (k + i)

/-- The table in which each of the `n` keys from `k` on holds `v`. -/
def Table.fillRun {α : Type} [DecidableEq α] (d : α) (t : Table α) (k n : Nat) (v : α) : Table α :=
  Table.writeRun d t k (List.replicate n v)

/-- Strictly rising keys. -/
def Table.rising {α : Type} : Table α → Bool
  | [] => true
  | [_] => true
  | e :: f :: rest => decide (e.1 < f.1) && Table.rising (f :: rest)

/-- The canonical form: strictly rising keys, and no entry equal to what an unlisted key holds. -/
def Table.wf {α : Type} [DecidableEq α] (d : α) (t : Table α) : Bool :=
  Table.rising t && t.all fun e => !decide (e.2 = d)

end Sys2Proof
end

