-- ==== Sys2Proof/Machine/Memory.lean ====
section
/-! DEFINITION. Exchange memory: words and their judgement (R100), reads and writes of a range of
addresses (R52, R53, R101), the page scrub (R89), and the disturbance of stored bits.
-/

namespace Sys2Proof.Machine

/-- What a memory address that is not listed reads as (assumption 5). -/
def Memory.unlisted : Byte := 0#8

/-- The stored byte at an address. -/
def Memory.byte (m : Memory) (a : Nat) : Byte := Table.value Memory.unlisted m.cells a

/-- The disturbed bits of a word. -/
def Memory.disturbed (m : Memory) (k : Nat) : List Nat := Table.value [] m.errors k

/-- The canonical form of exchange memory: both tables canonical, every key an address or a word of
the part (R99), and every set of disturbed bits strictly rising. -/
def Memory.wf (m : Memory) : Bool :=
  Table.wf Memory.unlisted m.cells && Table.wf [] m.errors
    && m.cells.all (fun c => decide (c.1 < Config.memoryBytes))
    && m.errors.all (fun e => decide (e.1 < Config.wordTotal) && decide (e.2.Pairwise (· < ·)))

/-! ### Disturbance -/

/-- A rising set of bit numbers with one bit turned over. -/
def toggleBit (b : Nat) : List Nat → List Nat
  | [] => [b]
  | c :: rest => if b < c then b :: c :: rest else if b = c then rest else c :: toggleBit b rest

/-- A byte with bit `j` turned over. -/
def flipByte (x : Byte) (j : Nat) : Byte := x ^^^ (1#8 <<< j)

/-- Nature turns over one stored bit of a word; a word outside exchange memory has none. -/
def Memory.disturbBit (m : Memory) (f : BitFlip) : Memory :=
  if f.word < Config.wordTotal then
    let a := 8 * f.word + f.bit / 8
    { cells :=
        if f.bit < 64 then Table.store Memory.unlisted m.cells a (flipByte (m.byte a) (f.bit % 8))
        else m.cells
      errors := Table.store [] m.errors f.word (toggleBit f.bit (m.disturbed f.word)) }
  else m

/-- Nature turns over a list of stored bits (assumption 3). -/
def Memory.disturb (m : Memory) (flips : List BitFlip) : Memory := flips.foldl Memory.disturbBit m

/-! ### Reading -/

/-- The 64 stored data bits of a word, byte 0 lowest. -/
def Memory.dataBits (m : Memory) (k : Nat) : BitVec 64 :=
  (List.range 8).foldl (fun x i => x ||| ((m.byte (8 * k + i)).setWidth 64 <<< (8 * i))) 0#64

/-- The judgement of a word from its stored bits (R100). -/
def Memory.judge (m : Memory) (k : Nat) : Judgement :=
  match m.disturbed k with
  | [] => .clean
  | [b] => .corrected b
  | [_, _] => .uncorrectable
  | many => Config.multiBitJudgement (m.dataBits k) many

/-- A word is corrected when it is read. -/
def Memory.isCorrected (m : Memory) (k : Nat) : Bool :=
  match m.judge k with
  | .corrected _ => true
  | .clean => false
  | .uncorrectable => false

/-- A word is uncorrectable when it is read. -/
def Memory.isUncorrectable (m : Memory) (k : Nat) : Bool :=
  match m.judge k with
  | .uncorrectable => true
  | .clean => false
  | .corrected _ => false

/-- The byte handed to the reader of byte `i` of word `k`: the stored byte, with the located bit
restored where the word is corrected (R100). -/
def Memory.handed (m : Memory) (k i : Nat) : Byte :=
  match m.judge k with
  | .corrected b =>
    if b < 64 ∧ b / 8 = i then flipByte (m.byte (8 * k + i)) (b % 8) else m.byte (8 * k + i)
  | .clean => m.byte (8 * k + i)
  | .uncorrectable => m.byte (8 * k + i)

/-- The byte at address `a` as FETCH delivers it and as a merge keeps it: zero where its word is
uncorrectable (R53, R101). -/
def Memory.delivered (m : Memory) (a : Nat) : Byte :=
  if m.isUncorrectable (a / 8) then 0#8 else m.handed (a / 8) (a % 8)

/-- The words that `n` bytes from address `a` touch (R99). -/
def touchedWords (a n : Nat) : List Nat :=
  if n = 0 then [] else (List.range ((a + n - 1) / 8 + 1 - a / 8)).map fun i => a / 8 + i

/-- The bytes delivered from `n` addresses from `a` on. -/
def Memory.readRange (m : Memory) (a n : Nat) : List Byte :=
  (List.range n).map fun i => m.delivered (a + i)

/-- How many of some words are corrected when read. -/
def Memory.countCorrected (m : Memory) (words : List Nat) : Nat :=
  (words.filter m.isCorrected).length

/-- How many of some words are uncorrectable when read. -/
def Memory.countUncorrectable (m : Memory) (words : List Nat) : Nat :=
  (words.filter m.isUncorrectable).length

/-! ### Writing -/

/-- All eight bytes of word `k` lie in the `n` bytes from address `a` on (R101). -/
def wordCovered (a n k : Nat) : Bool := decide (a ≤ 8 * k) && decide (8 * k + 8 ≤ a + n)

/-- The words that a write of `n` bytes at `a` merges (R101). -/
def mergedWords (a n : Nat) : List Nat := (touchedWords a n).filter fun k => !wordCovered a n k

/-- The byte that a write of `data` at `a` leaves at address `x` of a word it touches (R52, R101). -/
def Memory.mergedByte (m : Memory) (a : Nat) (data : List Byte) (x : Nat) : Byte :=
  if a ≤ x ∧ x < a + data.length then data.getD (x - a) 0#8 else m.delivered x

/-- A word written whole with fresh check bits. -/
def Memory.writeWord (m : Memory) (k : Nat) (bytes : List Byte) : Memory :=
  { cells := Table.writeRun Memory.unlisted m.cells (8 * k) bytes
    errors := Table.remove m.errors k }

/-- A write of `data` at address `a`: each word it touches is written whole or merged, and left clean
(R52, R101). -/
def Memory.writeRange (m : Memory) (a : Nat) (data : List Byte) : Memory :=
  (touchedWords a data.length).foldl
    (fun m' k => m'.writeWord k ((List.range 8).map fun i => m.mergedByte a data (8 * k + i))) m

/-- A page written with zero, its words with fresh check bits, no word read (R89, R170). -/
def Memory.scrubPage (m : Memory) (page : Nat) : Memory :=
  { cells := Table.clearRun m.cells (256 * page) 256
    errors := Table.clearRun m.errors (32 * page) 32 }

end Sys2Proof.Machine
end

