-- ==== Sys2Proof/Machine/Access.lean ====
section
/-! DEFINITION. The one home of every register: reads and writes of the ports, of the Directory's
tables, of the page map, of the quota counters and of the line policy.
-/

namespace Sys2Proof.Machine

/-! ### Holders and view places -/

/-- The holder code (R21). -/
def Holder.code : Holder → Nat
  | .payment => 0
  | .radio => 1
  | .app slot => 32 + slot.val

/-- The holder of a code, `none` for a code that names no holder (R21). -/
def Holder.ofCode? (c : Nat) : Option Holder :=
  if c = 0 then some .payment
  else if c = 1 then some .radio
  else if 32 ≤ c ∧ c < 64 then some (.app (Fin.ofNat 32 (c - 32)))
  else none

/-- The port that serves a holder (R21). -/
def Holder.port : Holder → PortId
  | .payment => .pPort
  | .radio => .nPort
  | .app _ => .aPort

/-- The highest selector of a holder (R22). -/
def Holder.selectorRange : Holder → Nat
  | .payment => 31
  | .radio => 31
  | .app slot => if slot.val = 0 then 15 else 7

/-- The A-holders: the A-system and the app slots. -/
def Holder.isA : Holder → Bool
  | .payment => false
  | .radio => false
  | .app _ => true

/-- The A-system (holder code 20h). -/
def Holder.system : Holder := .app 0

/-- The place of a view as its key in the View Table: the table's order is holder code, then selector
(R23). -/
def ViewId.key (v : ViewId) : Nat := v.holder.code * 32 + v.selector

/-- The place that a key of the View Table names. -/
def ViewId.ofKey (k : Nat) : ViewId := ⟨(Holder.ofCode? (k / 32)).getD .payment, k % 32⟩

/-! ### Ports -/

/-- One port of the three. -/
def Ports.get (ps : Ports) : PortId → Port
  | .pPort => ps.p
  | .nPort => ps.n
  | .aPort => ps.a

/-- The ports with one of the three replaced. -/
def Ports.set (ps : Ports) (i : PortId) (x : Port) : Ports :=
  match i with
  | .pPort => { ps with p := x }
  | .nPort => { ps with n := x }
  | .aPort => { ps with a := x }

/-- One port of the part. -/
def State.port (s : State) (i : PortId) : Port := s.ports.get i

/-- The part with one port replaced. -/
def State.setPort (s : State) (i : PortId) (x : Port) : State := { s with ports := s.ports.set i x }

/-- The holder for which a command on a port acts: on the A-port the acting slot's (R47, R131). -/
def State.caller (s : State) : PortId → Holder
  | .pPort => .payment
  | .nPort => .radio
  | .aPort => .app s.ports.acting

/-! ### The Directory's tables -/

/-- The Window Table entry of an index, `none` where it is FREE (R1). -/
def State.window? (s : State) (i : Nat) : Option Window := Table.at? s.dir.windows i

/-- The part with a Window Table entry written. -/
def State.putWindow (s : State) (i : Nat) (w : Window) : State :=
  { s with dir.windows := Table.put s.dir.windows i w }

/-- The view at a place, `none` where it is VOID (R22). -/
def State.view? (s : State) (v : ViewId) : Option View := Table.at? s.dir.views v.key

/-- The state of an app slot (R132). -/
def State.slot (s : State) (n : Nat) : SlotState := Table.value .closed s.dir.slots n

/-- The part with the state of an app slot written. -/
def State.setSlot (s : State) (n : Nat) (x : SlotState) : State :=
  { s with dir.slots := Table.store .closed s.dir.slots n x }

/-! ### Pages, counters, lines -/

/-- The page map entry of a page (R102). -/
def State.page (s : State) (p : Nat) : PageState := Table.value .scrubbing s.alloc.pages p

/-- The part with a page map entry written. -/
def State.setPage (s : State) (p : Nat) (x : PageState) : State :=
  { s with alloc.pages := Table.store .scrubbing s.alloc.pages p x }

/-- The quota counters of a holder (R110). -/
def State.counter (s : State) (h : Holder) : Counter := Table.value ⟨0, 0⟩ s.alloc.counters h.code

/-- The part with the quota counters of a holder written. -/
def State.setCounter (s : State) (h : Holder) (c : Counter) : State :=
  { s with alloc.counters := Table.store ⟨0, 0⟩ s.alloc.counters h.code c }

/-- The quota pair of a holder: the app slots have one pair between them (R110). -/
def Policy.quota (x : Policy) : Holder → Quota
  | .payment => x.quotaP
  | .radio => x.quotaN
  | .app slot => if slot.val = 0 then x.quotaSystem else x.quotaApp

/-- A line after device reset: role UNUSED, edge mode RISING (R155). -/
def LineConfig.initial : LineConfig := ⟨.unused, .rising⟩

/-- The role and the edge mode of a line (R171). -/
def Policy.line (x : Policy) (n : Nat) : LineConfig := Table.value LineConfig.initial x.lines n

/-- The previous level of a line's edge detector, high being `true` (R144). -/
def EventUnit.level (e : EventUnit) (n : Nat) : Bool := Table.value false e.levels n

/-! ### Banks -/

/-- The other bank of the two. -/
def BankNo.other : BankNo → BankNo
  | .zero => .one
  | .one => .zero

/-- The number of a bank. -/
def BankNo.toNat : BankNo → Nat
  | .zero => 0
  | .one => 1

/-- The record of a bank by its number (R64). -/
def Window.bank? (w : Window) : BankNo → Option Bank
  | .zero => some w.bank0
  | .one => w.bank1

/-- The bank count (R2). -/
def Window.bankCount (w : Window) : Nat := if w.bank1.isSome then 2 else 1

/-- The window with the record of one bank replaced. -/
def Window.setBank (w : Window) (n : BankNo) (b : Bank) : Window :=
  match n with
  | .zero => { w with bank0 := b }
  | .one => { w with bank1 := some b }

/-- The bank number that LIVE or SHADOW names (R6, R64): a one-bank window has no shadow bank. -/
def Window.resolve (w : Window) : BankName → Option BankNo
  | .live => some w.live
  | .shadow => if w.bank1.isSome then some w.live.other else none

/-- The limit of the live bank. -/
def Window.liveLimit (w : Window) : Nat := ((w.bank? w.live).map Bank.limit).getD 0

/-- The rights of a window's root view (R16). -/
def Window.rootRights (w : Window) : Rights := ⟨true, true, true, w.bank1.isSome⟩

end Sys2Proof.Machine
end

