-- ==== Sys2Proof/Machine/Flags.lean ====
section
/-! DEFINITION. Every condition the manual computes from the state: the quiet state of a window,
the activity of a holder, the busy rule and the known commands of a port, the attention line, the
requests waiting at the arbiter and the next grant, and the sets of rights.
-/

namespace Sys2Proof.Machine

/-! ### Windows -/

/-- Quiet: in-flight count 0 and not pinned (R7). -/
def Window.quiet (w : Window) : Bool := decide (w.inFlight = 0) && !w.pinned

/-- LIVE (R8). -/
def Window.isLive (w : Window) : Bool := decide (w.state = .live)

/-- LIVE and GUARDED, the windows that a tamper line event reaches (R151). -/
def Window.isLiveGuarded (w : Window) : Bool := w.isLive && decide (w.cls = .guarded)

/-- LIVE and bound to a line (R146). -/
def Window.isLiveBound (w : Window) (line : Nat) : Bool :=
  w.isLive && decide (w.binding.map Binding.line = some line)

/-- LIVE with a lifetime that the next tick ends (R17). -/
def Window.expires (w : Window) : Bool := w.isLive && decide (w.lifetime = some 1)

/-! ### Holders -/

/-- The activity of a holder (R21): P and N in RUNNING, the A-system always, an app slot while it is
OPEN. -/
def State.active (s : State) : Holder → Bool
  | .payment => decide (s.policy.phase = .running)
  | .radio => decide (s.policy.phase = .running)
  | .app slot => decide (slot.val = 0) || decide (s.slot slot.val = .opened)

/-- The holder owns a window that is not FREE. -/
def State.ownsWindow (s : State) (h : Holder) : Bool :=
  s.dir.windows.any fun e => decide (e.2.owner = h)

/-! ### Ports -/

/-- The busy rule (R161): the refusal of a command, or `none` where the port takes it. `duringTransfer`
holds for READ STATUS, READ NOTICE and PORT RESET, and `always` for READ STATUS alone. -/
def PortState.busyRule (x : PortState) (duringTransfer always : Bool) : Option ResultCode :=
  match x with
  | .notReady => if always then none else some .notReady
  | .idle => none
  | .executing => if duringTransfer then none else some .busy
  | .resetting => if duringTransfer then none else some .busy

/-- The places of a port's notice queue (R163). -/
def noticeCapacity : PortId → Nat
  | .pPort => 16
  | .nPort => 16
  | .aPort => 32

/-- The attention line ATTN is active (R165). -/
def Port.attn (x : Port) : Bool := !x.notices.isEmpty

/-! ### The XM arbiter -/

/-- The port holds an admitted transfer that is not yet granted, and so waits at the arbiter (R113). -/
def Port.requests (x : Port) : Bool := x.transfer.isSome && x.completion.isNone

/-- The Move Engine waits at the arbiter: for a fill-pattern read or for a chunk (R113). -/
def MoveEngine.requests (x : MoveEngine) : Bool :=
  decide (x.state = .pattern) || decide (x.state = .chunkGrant)

/-- The Retire Engine waits at the arbiter: for a page, in START-UP or in SCRUBBING (R113). -/
def RetireEngine.requests (x : RetireEngine) : Bool :=
  match x.state with
  | .startUp _ stage => decide (stage = .requested)
  | .scrubbing _ stage => decide (stage = .requested)
  | .idle => false
  | .sweeping _ => false
  | .freeing _ => false

/-- A requester waits at the arbiter (R113). -/
def State.requests (s : State) : Requester → Bool
  | .port i => (s.port i).requests
  | .moveEngine => s.move.requests
  | .retireEngine => s.retire.requests

/-- The cyclic order from the requester after the one last granted (R113). -/
def Requester.searchOrder : Requester → List Requester
  | .port .pPort => [.port .nPort, .port .aPort, .moveEngine, .retireEngine, .port .pPort]
  | .port .nPort => [.port .aPort, .moveEngine, .retireEngine, .port .pPort, .port .nPort]
  | .port .aPort => [.moveEngine, .retireEngine, .port .pPort, .port .nPort, .port .aPort]
  | .moveEngine => [.retireEngine, .port .pPort, .port .nPort, .port .aPort, .moveEngine]
  | .retireEngine => [.port .pPort, .port .nPort, .port .aPort, .moveEngine, .retireEngine]

/-- The requester that the arbiter grants next (R113). -/
def State.nextGrant (s : State) : Option Requester :=
  s.lastGranted.searchOrder.find? s.requests

/-- The requester waits and the arbiter grants it next. -/
def State.granted (s : State) (r : Requester) : Bool := decide (s.nextGrant = some r)

/-! ### Rights -/

/-- No right. -/
def Rights.isEmpty (r : Rights) : Bool := !(r.read || r.write || r.grant || r.swap)

/-- Every right of `r` is in `q`. -/
def Rights.subset (r q : Rights) : Bool :=
  (!r.read || q.read) && (!r.write || q.write) && (!r.grant || q.grant) && (!r.swap || q.swap)

/-- The rights in both (R33). -/
def Rights.inter (r q : Rights) : Rights :=
  ⟨r.read && q.read, r.write && q.write, r.grant && q.grant, r.swap && q.swap⟩

/-- The right that a transfer needs (R48, check 5). -/
def Rights.permits (r : Rights) : TransferKind → Bool
  | .put => r.write
  | .fetch => r.read

/-! ### Edges -/

/-- A change of level qualifies under an edge mode (R144); `rising` says which edge it is. -/
def EdgeMode.qualifies (m : EdgeMode) (rising : Bool) : Bool :=
  match m with
  | .rising => rising
  | .falling => !rising
  | .either => true

end Sys2Proof.Machine
end

