-- ==== Sys2Proof/Machine/Operands.lean ====
section
/-! DEFINITION. The operands of the commands: the encodings of chapter 12 read from a request and
written into a response or a notice, and the checks of an operand that several commands share.
-/

namespace Sys2Proof.Machine

/-! ### Encodings read (12.1) -/

/-- class: 00h COMMON, 01h GUARDED. -/
def WindowClass.ofByte? (b : Byte) : Option WindowClass :=
  if b = 0x00#8 then some .common else if b = 0x01#8 then some .guarded else none

/-- unit: 01h, 04h, 10h for 1, 4, 16. -/
def unitOfByte? (b : Byte) : Option Nat :=
  if b = 0x01#8 then some 1 else if b = 0x04#8 then some 4 else if b = 0x10#8 then some 16 else none

/-- bank: 00h LIVE, 01h SHADOW. -/
def BankName.ofByte? (b : Byte) : Option BankName :=
  if b = 0x00#8 then some .live else if b = 0x01#8 then some .shadow else none

/-- binding action: 00h RETIRE, 01h SWAP. -/
def BindingAction.ofByte? (b : Byte) : Option BindingAction :=
  if b = 0x00#8 then some .retire else if b = 0x01#8 then some .swap else none

/-- move mode: 00h COPY, 01h FILL, 02h DESCEND; the fill unit is 1, 2, 4 or 8, and is disregarded
unless the mode is FILL (R118, R174). -/
def MoveMode.ofBytes? (mode fillUnit : Byte) : Option MoveMode :=
  if mode = 0x00#8 then some .copy
  else if mode = 0x01#8 then
    if fillUnit = 1#8 ∨ fillUnit = 2#8 ∨ fillUnit = 4#8 ∨ fillUnit = 8#8 then
      some (.fill fillUnit.toNat)
    else none
  else if mode = 0x02#8 then some .descend
  else none

/-- rights: bit 0 READ, bit 1 WRITE, bit 2 GRANT, bit 3 SWAP; none of bits 4 to 7 (R174). -/
def Rights.ofByte? (b : Byte) : Option Rights :=
  if b.toNat < 16 then some ⟨b.getLsbD 0, b.getLsbD 1, b.getLsbD 2, b.getLsbD 3⟩ else none

/-- line role: 00h UNUSED, 01h BINDABLE, 02h TAMPER. -/
def LineRole.ofByte? (b : Byte) : Option LineRole :=
  if b = 0x00#8 then some .unused
  else if b = 0x01#8 then some .bindable
  else if b = 0x02#8 then some .tamper
  else none

/-- edge mode: 00h RISING, 01h FALLING, 02h EITHER. -/
def EdgeMode.ofByte? (b : Byte) : Option EdgeMode :=
  if b = 0x00#8 then some .rising
  else if b = 0x01#8 then some .falling
  else if b = 0x02#8 then some .either
  else none

/-! ### Encodings written (12.1, R175, R176) -/

/-- The result values (R175). -/
def ResultCode.toByte : ResultCode → Byte
  | .ok => 0x00#8
  | .accepted => 0x01#8
  | .frame => 0x10#8
  | .unknown => 0x11#8
  | .busy => 0x12#8
  | .notReady => 0x13#8
  | .badArg => 0x20#8
  | .nullSelector => 0x21#8
  | .stale => 0x22#8
  | .rights => 0x23#8
  | .limit => 0x24#8
  | .align => 0x25#8
  | .windowBusy => 0x30#8
  | .classRefused => 0x31#8
  | .duplicate => 0x32#8
  | .noSelector => 0x33#8
  | .depth => 0x34#8
  | .notAncestor => 0x35#8
  | .notOwner => 0x36#8
  | .holderClosed => 0x37#8
  | .quota => 0x40#8
  | .noSpace => 0x41#8
  | .noWindow => 0x42#8
  | .queueFull => 0x43#8
  | .tampered => 0x50#8
  | .locked => 0x51#8
  | .dataError => 0x60#8
  | .aborted => 0x61#8

/-- class, as written. -/
def WindowClass.toByte : WindowClass → Byte
  | .common => 0x00#8
  | .guarded => 0x01#8

/-- window state: 01h LIVE, 02h DRAINING, 03h QUEUED, 04h CLEARING. -/
def WindowState.toByte : WindowState → Byte
  | .live => 0x01#8
  | .draining => 0x02#8
  | .queued => 0x03#8
  | .clearing => 0x04#8

/-- port state: 00h NOT_READY, 01h IDLE, 02h EXECUTING, 03h RESETTING. -/
def PortState.toByte : PortState → Byte
  | .notReady => 0x00#8
  | .idle => 0x01#8
  | .executing => 0x02#8
  | .resetting => 0x03#8

/-- device phase: 00h STARTING, 01h CONFIGURING, 02h RUNNING. -/
def DevicePhase.toByte : DevicePhase → Byte
  | .starting => 0x00#8
  | .configuring => 0x01#8
  | .running => 0x02#8

/-- view void cause: 01h RETIRED, 02h PARENT_VOIDED, 03h NARROWED_TO_NONE. -/
def VoidCause.toByte : VoidCause → Byte
  | .retired => 0x01#8
  | .parentVoided => 0x02#8
  | .narrowedToNone => 0x03#8

/-- retire cause: 01h OWNER to 06h SLOT_CLOSED. -/
def RetireCause.toByte : RetireCause → Byte
  | .owner => 0x01#8
  | .forced => 0x02#8
  | .expired => 0x03#8
  | .line => 0x04#8
  | .tamper => 0x05#8
  | .slotClosed => 0x06#8

/-- swap source: 01h HOLDER, 02h LINE. -/
def SwapSource.toByte : SwapSource → Byte
  | .holder => 0x01#8
  | .line => 0x02#8

/-- notice kind (R176). -/
def NoticeKind.toByte : NoticeKind → Byte
  | .none => 0x00#8
  | .viewGranted => 0x01#8
  | .viewNarrowed => 0x02#8
  | .viewVoided => 0x03#8
  | .swapDone => 0x04#8
  | .windowDamaged => 0x05#8
  | .moveDone => 0x06#8
  | .retireDone => 0x07#8
  | .slotClosed => 0x08#8
  | .tamper => 0x09#8

/-- flags: 01h set or yes, 00h clear or no. -/
def flagByte (b : Bool) : Byte := if b then 0x01#8 else 0x00#8

/-- A set of rights as a byte. -/
def Rights.toByte (r : Rights) : Byte :=
  (if r.read then 1#8 else 0#8) ||| (if r.write then 2#8 else 0#8)
    ||| (if r.grant then 4#8 else 0#8) ||| (if r.swap then 8#8 else 0#8)

/-- A number as one byte. -/
def byteOf (n : Nat) : Byte := BitVec.ofNat 8 n

/-! ### Checks -/

/-- A check of a command: it passes, or the command is refused with the code. -/
def require (passes : Bool) (code : ResultCode) : Except ResultCode Unit :=
  if passes then .ok () else .error code

/-- A lookup of a command: what it finds, or the command is refused with the code. -/
def found {α : Type} (x : Option α) (code : ResultCode) : Except ResultCode α :=
  match x with
  | some a => .ok a
  | none => .error code

/-- Checks 1 to 4 that the commands through a view share: caller not active HOLDER_CLOSED, selector 0
NULL_SELECTOR, selector above the range BAD_ARG, view VOID STALE (R18, R29, R32, R39, R40, R48, R69,
R74, R82). -/
def State.callerView (s : State) (h : Holder) (selector : Byte) : Except ResultCode View := do
  require (s.active h) .holderClosed
  require (decide (selector ≠ 0#8)) .nullSelector
  require (decide (selector.toNat ≤ h.selectorRange)) .badArg
  found (s.view? ⟨h, selector.toNat⟩) .stale

/-- The window behind a view, refused STALE where it is not LIVE (R9). -/
def State.liveWindow (s : State) (i : Nat) : Except ResultCode Window := do
  let w ← found (s.window? i) .stale
  require w.isLive .stale
  return w

end Sys2Proof.Machine
end

