-- ==== Sys2Proof/Machine/Formats.lean ====
section
/-! DEFINITION. The bytes that a bus partner sees beside its own requests: notice records (R176), the
answers of READ STATUS and DESCRIBE VIEW, and a response with its frame check (R159, R175).
-/

namespace Sys2Proof.Machine

/-- A notice as a record of 12 bytes (R176). -/
def Notice.record (n : Notice) : List Byte :=
  [n.kind.toByte, byteOf n.holder.code, byteOf n.selector, n.code.toByte, n.a0, n.a1, n.a2, n.a3]
    ++ Frame.bytes4 n.b

/-- The NONE record, zero in all 12 bytes (R164, R176). -/
def Notice.empty : Notice := ⟨.none, .payment, 0, .ok, 0#8, 0#8, 0#8, 0#8, 0#32⟩

/-- The READ STATUS answer, 12 bytes (R162, R175); FFh stands for the acting slot of the P-port and the
N-port. -/
def State.statusBytes (s : State) (i : PortId) : List Byte :=
  let x := s.port i
  [x.state.toByte, s.policy.phase.toByte, flagByte s.dir.tamper, x.last.code.toByte]
    ++ Frame.bytes2 (BitVec.ofNat 16 x.last.bytes)
    ++ [byteOf x.last.corrected, byteOf x.last.uncorrectable, byteOf x.notices.length,
        flagByte x.lost, flagByte x.mark,
        match i with
        | .pPort => 0xFF#8
        | .nPort => 0xFF#8
        | .aPort => byteOf s.ports.acting.val]

/-- The DESCRIBE VIEW answer, 17 bytes (R40, R175): the lifetime is shown to the holder of the root
view and to P, and is zero where absent or withheld. -/
def describeBytes (h : Holder) (v : View) (w : Window) : List Byte :=
  [w.state.toByte, w.cls.toByte, byteOf w.unit, byteOf w.bankCount, byteOf w.live.toNat]
    ++ Frame.bytes3 (BitVec.ofNat 24 w.bank0.limit)
    ++ Frame.bytes3 (BitVec.ofNat 24 ((w.bank1.map Bank.limit).getD 0))
    ++ [v.rights.toByte, byteOf v.depth, flagByte v.root, flagByte w.damaged]
    ++ Frame.bytes2 (BitVec.ofNat 16
        (if v.root || decide (h = .payment) then w.lifetime.getD 0 else 0))

/-- A response as the port drives it: the result byte, the detail bytes and the frame check over both
(R159). -/
def Response.bytes (r : Response) : List Byte :=
  (r.code.toByte :: r.detail) ++ Frame.bytes2 (Frame.crc16 (r.code.toByte :: r.detail))

/-- The byte that a port drives before and after its response (R175). -/
def idleByte : Byte := 0xFF#8

end Sys2Proof.Machine
end

