-- ==== Sys2Proof/Machine/Ops.lean ====
section
/-! DEFINITION. The shared operations: answering and posting, the grant tree, retirement, the bank
exchange and the quiet point, placement, the port reset's act, the end of a move, and the grants.
-/

namespace Sys2Proof.Machine

/-! ### Answers -/

/-- The port drives a response (R159). -/
def State.answer (s : State) (i : PortId) (code : ResultCode) (detail : List Byte) : State :=
  s.setPort i { s.port i with response := some ⟨code, detail⟩ }

/-- The port drives a result that carries no detail (R175). -/
def State.reply (s : State) (i : PortId) (code : ResultCode) : State := s.answer i code []

/-- A command that passed its frame check reaches its owner if the port's busy rule takes it
(R158 step 4, R161). -/
def State.onPort (s : State) (i : PortId) (duringTransfer always : Bool) (act : State) : State :=
  match (s.port i).state.busyRule duringTransfer always with
  | some code => s.reply i code
  | none => act

/-- The busy rule of every command but READ STATUS, READ NOTICE and PORT RESET. -/
def State.onIdle (s : State) (i : PortId) (act : State) : State := s.onPort i false false act

/-- A command whose checks end in a refusal changes nothing but the response; one whose checks pass
acts. -/
def State.checked {α : Type} (s : State) (i : PortId) (checks : Except ResultCode α)
    (act : α → State) : State :=
  match checks with
  | .error code => s.reply i code
  | .ok a => act a

/-! ### Notices -/

/-- A notice posted to the port that serves its holder: it joins the tail, or is dropped with the
notices-lost flag set where the queue is full (R163). -/
def Ports.post (ps : Ports) (n : Notice) : Ports :=
  let i := n.holder.port
  let x := ps.get i
  ps.set i
    (if x.notices.length < noticeCapacity i then { x with notices := x.notices ++ [n] }
     else { x with lost := true })

/-- One notice posted. -/
def State.post (s : State) (n : Notice) : State := { s with ports := s.ports.post n }

/-- Notices posted in order. -/
def State.postAll (s : State) (ns : List Notice) : State :=
  { s with ports := ns.foldl Ports.post s.ports }

/-- VIEW_GRANTED (R30, R176). -/
def Notice.viewGranted (target : Holder) (selector : Nat) (r : Rights) (grantor : Holder)
    (limit : Nat) : Notice :=
  ⟨.viewGranted, target, selector, .ok, r.toByte, byteOf grantor.code, 0#8, 0#8,
    BitVec.ofNat 32 limit⟩

/-- VIEW_NARROWED (R35, R176). -/
def Notice.viewNarrowed (v : ViewId) (r : Rights) : Notice :=
  ⟨.viewNarrowed, v.holder, v.selector, .ok, r.toByte, 0#8, 0#8, 0#8, 0#32⟩

/-- VIEW_VOIDED (R38, R176). -/
def Notice.viewVoided (v : ViewId) (c : VoidCause) : Notice :=
  ⟨.viewVoided, v.holder, v.selector, .ok, c.toByte, 0#8, 0#8, 0#8, 0#32⟩

/-- SWAP_DONE (R66, R176). -/
def Notice.swapDone (v : ViewId) (source : SwapSource) (live : BankNo) (limit : Nat) : Notice :=
  ⟨.swapDone, v.holder, v.selector, .ok, source.toByte, byteOf live.toNat, 0#8, 0#8,
    BitVec.ofNat 32 limit⟩

/-- WINDOW_DAMAGED (R20, R176). -/
def Notice.windowDamaged (owner : Holder) (selector : Nat) : Notice :=
  ⟨.windowDamaged, owner, selector, .dataError, 0#8, 0#8, 0#8, 0#8, 0#32⟩

/-- MOVE_DONE (R127, R176): the corrected word count in A2 and A3, high byte first. -/
def Notice.moveDone (requester : Holder) (reference : Byte) (code : ResultCode)
    (bytes corrected : Nat) : Notice :=
  ⟨.moveDone, requester, 0, code, reference, 0#8, byteOf (corrected / 256), byteOf corrected,
    BitVec.ofNat 32 bytes⟩

/-- RETIRE_DONE (R90, R176). -/
def Notice.retireDone (r : RetireRecord) : Notice :=
  ⟨.retireDone, r.owner, r.rootSelector, .ok, r.cause.toByte, flagByte r.damaged, 0#8, 0#8, 0#32⟩

/-- SLOT_CLOSED (R140, R176). -/
def Notice.slotClosed (slot : Nat) : Notice :=
  ⟨.slotClosed, Holder.system, 0, .ok, byteOf slot, 0#8, 0#8, 0#8, 0#32⟩

/-- TAMPER (R151, R176). -/
def Notice.tamper (h : Holder) (line count : Nat) : Notice :=
  ⟨.tamper, h, 0, .tampered, byteOf line, 0#8, 0#8, 0#8, BitVec.ofNat 32 count⟩

/-! ### The grant tree -/

/-- The keys of the VALID views granted from the view of a key, in table order (R23). -/
def childrenOf (views : Table View) (k : Nat) : List Nat :=
  (views.filter fun e => decide (e.2.parent.map ViewId.key = some k)).map Prod.fst

/-- The preorder walk from a view over `levels` levels of its tree (R37). -/
def treeWalk (views : Table View) : Nat → Nat → List Nat
  | 0, _ => []
  | levels + 1, k => k :: (childrenOf views k).flatMap (treeWalk views levels)

/-- A view and all its descendants in preorder (R37): a path from the root holds at most four views. -/
def subtree (views : Table View) (k : Nat) : List Nat := treeWalk views Config.treeDepth k

/-- The views of a window walked from the root in preorder (R66, R88). A view of the window that no
walk from a root reaches, which no run from device reset has, comes last in table order. -/
def windowWalk (views : Table View) (w : Nat) : List Nat :=
  let named := views.filter fun e => decide (e.2.window = w)
  let roots := (named.filter fun e => e.2.root).map Prod.fst
  let walked := (roots.flatMap (subtree views)).filter fun k => (named.map Prod.fst).contains k
  walked ++ (named.map Prod.fst).filter fun k => !walked.contains k

/-- The selector of the root view of a window, 0 where no root view of it is VALID (R20, R88). -/
def rootSelector (views : Table View) (w : Nat) : Nat :=
  ((views.find? fun e => decide (e.2.window = w) && e.2.root).map fun e => e.1 % 32).getD 0

/-- The View Table with the views of some keys VOID (R37). -/
def voidKeys (views : Table View) (ks : List Nat) : Table View :=
  views.filter fun e => !ks.contains e.1

/-- The view of key `anc` is reached from that of key `k` by following parent fields one to `levels`
steps (R32). -/
def isAncestor (views : Table View) (anc : Nat) : Nat → Nat → Bool
  | 0, _ => false
  | levels + 1, k =>
    match (Table.at? views k).bind View.parent with
    | none => false
    | some q => decide (q.key = anc) || isAncestor views anc levels q.key

/-- What a narrowing does to one view of the subtree (R33, R34). -/
inductive NarrowAct where
  | narrow (before after : Rights)
  | void (cause : VoidCause)
  deriving DecidableEq, Repr

/-- What a narrowing to `r` does to the subtree of a view, in preorder (R33, R34): a view whose
intersection is empty is voided with its descendants, any other takes the intersection. That a narrowing
which voids several disjoint parts keeps the one walk over the target's subtree (R35), and does not take
the parts by the places of their tops (R37), is the model's reading (assumption 23). -/
def narrowPlan (views : Table View) (r : Rights) : Nat → Nat → List (Nat × NarrowAct)
  | 0, _ => []
  | levels + 1, k =>
    match Table.at? views k with
    | none => []
    | some v =>
      let after := v.rights.inter r
      if after.isEmpty then
        (k, .void .narrowedToNone)
          :: ((childrenOf views k).flatMap (treeWalk views levels)).map fun j =>
            (j, .void .parentVoided)
      else
        (k, .narrow v.rights after) :: (childrenOf views k).flatMap (narrowPlan views r levels)

/-- The View Table after a narrowing (R33, R34). -/
def applyPlan (views : Table View) (plan : List (Nat × NarrowAct)) : Table View :=
  views.filterMap fun e =>
    match Table.at? plan e.1 with
    | none => some e
    | some (.narrow _ after) => some (e.1, { e.2 with rights := after })
    | some (.void _) => none

/-- The notices of a narrowing, in the order of the walk over the target's subtree (R34, R35; assumption
23). -/
def planNotices (plan : List (Nat × NarrowAct)) : List Notice :=
  plan.filterMap fun e =>
    match e.2 with
    | .narrow before after =>
      if before = after then none else some (Notice.viewNarrowed (ViewId.ofKey e.1) after)
    | .void cause => some (Notice.viewVoided (ViewId.ofKey e.1) cause)

/-- The VOID selector of a holder with the lowest number (R22). -/
def State.freeSelector (s : State) (h : Holder) : Option Nat :=
  ((List.range h.selectorRange).map (· + 1)).find? fun n => (s.view? ⟨h, n⟩).isNone

/-- The holder holds a VALID view of a window (R27). -/
def State.holdsViewOf (s : State) (h : Holder) (w : Nat) : Bool :=
  ((List.range h.selectorRange).map (· + 1)).any fun n =>
    decide ((s.view? ⟨h, n⟩).map View.window = some w)

/-- A view created at a place (R16, R30). -/
def State.putView (s : State) (v : ViewId) (x : View) : State :=
  { s with dir.views := Table.put s.dir.views v.key x }

/-! ### Retirement, exchange and the quiet point -/

/-- Retirement begins on a LIVE window (R79): the cause is recorded, a pending swap is dropped, and a
quiet window moves on to QUEUED and joins the tail of the Retire Queue. A window that is not LIVE is
passed over. -/
def State.beginRetirement (s : State) (i : Nat) (cause : RetireCause) : State :=
  match s.window? i with
  | none => s
  | some w =>
    if w.isLive then
      if w.quiet then
        { s with
          dir.windows := Table.put s.dir.windows i
            { w with state := .queued, cause := some cause, swapPending := none }
          retire.queue := s.retire.queue ++ [i] }
      else
        s.putWindow i { w with state := .draining, cause := some cause, swapPending := none }
    else s

/-- The SWAP_DONE notices of an exchange: one for every VALID view of the window, in tree order
(R66). -/
def swapNotices (views : Table View) (i : Nat) (w : Window) (source : SwapSource) : List Notice :=
  (windowWalk views i).map fun k => Notice.swapDone (ViewId.ofKey k) source w.live w.liveLimit

/-- The banks of a window are exchanged (R65) and SWAP_DONE is posted (R66). -/
def State.exchange (s : State) (i : Nat) (w : Window) (source : SwapSource) : State :=
  let after := { w with live := w.live.other, swapPending := none }
  (s.putWindow i after).postAll (swapNotices s.dir.views i after source)

/-- An exchange request on a LIVE two-bank window (R68): exchanged at once where the window is quiet,
otherwise pending, the source recorded first standing. -/
def State.requestExchange (s : State) (i : Nat) (w : Window) (source : SwapSource) : State :=
  if w.quiet then s.exchange i w source
  else
    match w.swapPending with
    | some _ => s
    | none => s.putWindow i { w with swapPending := some source }

/-- The quiet-point action of a window (R55 step 3, R72, R84): a DRAINING window that is quiet becomes
QUEUED and joins the Retire Queue, a LIVE one with swap pending has its banks exchanged with the
recorded source. -/
def State.quietPoint (s : State) (i : Nat) : State :=
  match s.window? i with
  | none => s
  | some w =>
    if w.quiet then
      match w.state with
      | .draining =>
        { s with
          dir.windows := Table.put s.dir.windows i { w with state := .queued }
          retire.queue := s.retire.queue ++ [i] }
      | .live =>
        match w.swapPending with
        | some source => s.exchange i w source
        | none => s
      | .queued => s
      | .clearing => s
    else s

/-- An uncorrectable read reaches the Directory (R20): the damaged flag is set, and where it was clear
WINDOW_DAMAGED is posted to the owner. -/
def State.setDamaged (s : State) (i : Nat) : State :=
  match s.window? i with
  | none => s
  | some w =>
    if w.damaged then s
    else
      (s.putWindow i { w with damaged := true }).post
        (Notice.windowDamaged w.owner (rootSelector s.dir.views i))

/-! ### Placement -/

/-- The pools a holder searches, in order, each as its first page and the page after its last
(R105, R106). -/
def Policy.pools (x : Policy) : Holder → List (Nat × Nat)
  | .payment => [(2048 - x.pReserve, 2048), (x.nReserve, 2048 - x.pReserve)]
  | .radio => [(0, x.nReserve), (x.nReserve, 2048 - x.pReserve)]
  | .app _ => [(x.nReserve, 2048 - x.pReserve)]

/-- The lowest first page of a run of `c` free pages wholly inside the pages from `lo` up to but not
with `hi` (R107). -/
def firstFit (free : Nat → Bool) (lo hi c : Nat) : Option Nat :=
  ((List.range (hi + 1 - (lo + c))).map (lo + ·)).find? fun f =>
    (List.range c).all fun i => free (f + i)

/-- The place of a bank of `c` pages: the first pool that yields one (R106, R107). -/
def searchPools (free : Nat → Bool) (pools : List (Nat × Nat)) (c : Nat) : Option Nat :=
  pools.findSome? fun pool => firstFit free pool.1 pool.2 c

/-- A page is FREE in the page map (R102). -/
def State.pageFree (s : State) (p : Nat) : Bool := decide (s.page p = .free)

/-- The first pages of the banks of a new window (R108): bank 0 first, then bank 1 among the pages that
bank 0 leaves. -/
def State.place (s : State) (h : Holder) (c0 : Nat) (c1 : Option Nat) : Option (Nat × Option Nat) :=
  match searchPools s.pageFree (s.policy.pools h) c0 with
  | none => none
  | some f0 =>
    match c1 with
    | none => some (f0, none)
    | some c =>
      (searchPools (fun p => s.pageFree p && !(decide (f0 ≤ p) && decide (p < f0 + c0)))
        (s.policy.pools h) c).map fun f1 => (f0, some f1)

/-- The pages of a run marked ALLOCATED to a bank (R108). -/
def allocateRun (pages : Table PageState) (w : Nat) (n : BankNo) (first count : Nat) :
    Table PageState :=
  Table.fillRun .scrubbing pages first count (.allocated w n)

/-- The length of a bank in pages: bytes divided by 256, rounded up (R5). -/
def pagesOf (length : Nat) : Nat := (length + 255) / 256

/-! ### The port reset -/

/-- What an acting port reset does to the Move Queue (R128): the port's waiting requests leave, and its
running request takes the reset mark. -/
def resetMoves (i : PortId) (queue : List MoveRequest) : List MoveRequest :=
  (queue.filter fun r => r.running || !decide (r.requester.port = i)).map fun r =>
    if r.requester.port = i then { r with resetMark := true } else r

/-- The port reset acts (R166). -/
def State.actReset (s : State) (i : PortId) : State :=
  { s.setPort i
      { s.port i with
        notices := []
        lost := false
        last := LastResult.initial
        state := .idle } with
    move.queue := resetMoves i s.move.queue }

/-! ### The end of a move -/

/-- A window's pin released (R127 step 2). -/
def State.releasePin (s : State) (i : Nat) : State :=
  match s.window? i with
  | none => s
  | some w => s.putWindow i { w with pinned := false }

/-- The pins of a started move released, and then the quiet-point action of each window, the source
first; a window that is both is handled once (R72, R127 steps 2 and 3). -/
def State.releaseMove (s : State) (r : Resolved) : State :=
  let released := (s.releasePin r.srcWindow).releasePin r.dstWindow
  let atSource := released.quietPoint r.srcWindow
  if r.dstWindow = r.srcWindow then atSource else atSource.quietPoint r.dstWindow

/-- The end event of the move at the head of the queue (R127), with its result code; `dataError` says
that it read an uncorrectable source word; the corrected word count of the move that is no more is cleared
(assumption 22). No MOVE_DONE is posted where the reset mark is set and the
move did not end with OK (R128). -/
def State.endMove (s : State) (r : MoveRequest) (code : ResultCode) (dataError : Bool) : State :=
  let damaged :=
    match r.resolved with
    | some x => if dataError then s.setDamaged x.srcWindow else s
    | none => s
  let released :=
    match r.resolved with
    | some x => damaged.releaseMove x
    | none => damaged
  let posted :=
    if r.resetMark && !decide (code = .ok) then released
    else released.post
      (Notice.moveDone r.requester r.reference code r.progress s.move.corrected)
  { posted with
    move.queue := s.move.queue.tail
    move.state := .idle
    move.corrected := 0 }

/-! ### The close of an app slot -/

/-- The slot becomes CLOSED and SLOT_CLOSED is posted to the A-system (R140). -/
def State.completeClose (s : State) (slot : Nat) : State :=
  (s.setSlot slot .closed).post (Notice.slotClosed slot)

/-! ### Grants -/

/-- The memory address of a range in a bank of a window (R51, R99), `none` where the table holds no
such bank or the range leaves exchange memory. -/
def State.rangeAddress? (s : State) (window : Nat) (bank : BankNo) (offset count : Nat) :
    Option Nat :=
  match (s.window? window).bind fun w => w.bank? bank with
  | none => none
  | some b =>
    let a := b.firstPage * 256 + offset
    if a + count ≤ Config.memoryBytes then some a else none

/-- A grant begins: nature has turned over some stored bits since the last one, and the arbiter's last
requester granted is the one now granted (R100, R113; assumption 3). -/
def State.beginGrant (s : State) (r : Requester) (flips : List BitFlip) : State :=
  { s with xm := s.xm.disturb flips, lastGranted := r }

end Sys2Proof.Machine
end

