-- ==== Sys2Proof/Machine/Views.lean ====
section
/-! DEFINITION. The view commands: GRANT VIEW, NARROW VIEW, DROP VIEW and DESCRIBE VIEW (chapter 2).
-/

namespace Sys2Proof.Machine

/-- A view about to be granted: its place, its rights, its parent and the live-bank limit that the
notice carries (R30). -/
structure GrantTicket where
  target : ViewId
  view : View
  grantor : Holder
  liveLimit : Nat
  deriving DecidableEq, Repr

/-- The checks of GRANT VIEW (R29), in their order. -/
def checkGrantView (i : PortId) (selector target rights : Byte) (s : State) :
    Except ResultCode GrantTicket := do
  let h := s.caller i
  let v ← s.callerView h selector
  let w ← s.liveWindow v.window
  require v.rights.grant .rights
  let r ← found (Rights.ofByte? rights) .badArg
  require (!r.isEmpty && r.subset v.rights && (!r.swap || w.bank1.isSome)) .badArg
  require (decide (v.depth < 3)) .depth
  let t ← found (Holder.ofCode? target.toNat) .badArg
  require (s.active t) .holderClosed
  require (!(decide (w.cls = .guarded) && t.isA)) .classRefused
  require (!s.holdsViewOf t v.window) .duplicate
  let n ← found (s.freeSelector t) .noSelector
  return {
    target := ⟨t, n⟩
    view := ⟨v.window, r, false, some ⟨h, selector.toNat⟩, v.depth + 1⟩
    grantor := h
    liveLimit := w.liveLimit }

/-- GRANT VIEW (R29, R30): the child view is created, VIEW_GRANTED is posted to the target, and the
answer is the target's new selector. -/
def execGrantView (i : PortId) (selector target rights : Byte) (s : State) : Result :=
  .next (s.onIdle i (s.checked i (checkGrantView i selector target rights s) fun g =>
    ((s.putView g.target g.view).post
      (Notice.viewGranted g.target.holder g.target.selector g.view.rights g.grantor
        g.liveLimit)).answer i .ok [byteOf g.target.selector]))

/-- The checks of NARROW VIEW (R32), in their order: the key of the target view and the new rights. -/
def checkNarrowView (i : PortId) (selector target targetSelector rights : Byte) (s : State) :
    Except ResultCode (Nat × Rights) := do
  let h := s.caller i
  let _ ← s.callerView h selector
  let t ← found (Holder.ofCode? target.toNat) .badArg
  require (decide (targetSelector ≠ 0#8)) .nullSelector
  require (decide (targetSelector.toNat ≤ t.selectorRange)) .badArg
  let place : ViewId := ⟨t, targetSelector.toNat⟩
  let v ← found (s.view? place) .stale
  require (isAncestor s.dir.views (ViewId.key ⟨h, selector.toNat⟩) Config.treeDepth place.key)
    .notAncestor
  let r ← found (Rights.ofByte? rights) .badArg
  require (r.subset v.rights) .badArg
  return (place.key, r)

/-- NARROW VIEW (R32 to R35): the target's subtree is narrowed, views left with no right are voided
with their descendants, and the holders are told in the order of the walk. -/
def execNarrowView (i : PortId) (selector target targetSelector rights : Byte) (s : State) :
    Result :=
  .next (s.onIdle i (s.checked i (checkNarrowView i selector target targetSelector rights s)
    fun x =>
      let plan := narrowPlan s.dir.views x.2 Config.treeDepth x.1
      (({ s with dir.views := applyPlan s.dir.views plan } : State).postAll
        (planNotices plan)).reply i .ok))

/-- The checks of DROP VIEW (R39): the key of the view. -/
def checkDropView (i : PortId) (selector : Byte) (s : State) : Except ResultCode Nat := do
  let h := s.caller i
  let v ← s.callerView h selector
  require (!v.root) .badArg
  return ViewId.key ⟨h, selector.toNat⟩

/-- The VIEW_VOIDED notices of the descendants of a voided view (R37, R38). -/
def parentVoidedNotices (ks : List Nat) : List Notice :=
  ks.map fun k => Notice.viewVoided (ViewId.ofKey k) .parentVoided

/-- DROP VIEW (R39): the view and its descendants are voided; the holders of the descendants are told,
the caller is not. -/
def execDropView (i : PortId) (selector : Byte) (s : State) : Result :=
  .next (s.onIdle i (s.checked i (checkDropView i selector s) fun k =>
    let ks := subtree s.dir.views k
    (({ s with dir.views := voidKeys s.dir.views ks } : State).postAll
      (parentVoidedNotices ks.tail)).reply i .ok))

/-- The checks of DESCRIBE VIEW (R40). A VALID view names a window that is not FREE; the lookup of its
entry is refused STALE where the table holds none, which no run from device reset meets. -/
def checkDescribeView (i : PortId) (selector : Byte) (s : State) :
    Except ResultCode (View × Window) := do
  let v ← s.callerView (s.caller i) selector
  let w ← found (s.window? v.window) .stale
  return (v, w)

/-- DESCRIBE VIEW (R40): the answer, and nothing changes. -/
def execDescribeView (i : PortId) (selector : Byte) (s : State) : Result :=
  .next (s.onIdle i (s.checked i (checkDescribeView i selector s) fun x =>
    s.answer i .ok (describeBytes (s.caller i) x.1 x.2)))

end Sys2Proof.Machine
end

