-- ==== Sys2Proof/Machine/Slots.lean ====
section
/-! DEFINITION. The A-port's own commands: SELECT APP, OPEN SLOT and CLOSE SLOT (chapter 8). On the
P-port and the N-port each is answered UNKNOWN, before the busy rule (R131, R158 step 2).
-/

namespace Sys2Proof.Machine

/-- A command that the A-port alone knows. -/
def State.onAPort (s : State) (i : PortId) (act : State) : State :=
  match i with
  | .pPort => s.reply .pPort .unknown
  | .nPort => s.reply .nPort .unknown
  | .aPort => s.onIdle .aPort act

/-- SELECT APP (R134): a change of slot zero-fills the staging buffer and clears the mark. -/
def State.selectApp (s : State) (slot : Fin 32) : State :=
  if slot = s.ports.acting then s
  else { s with ports := { s.ports with
      a := { s.ports.a with staging := [], mark := false }
      acting := slot } }

/-- SELECT APP (R134). -/
def execSelectApp (i : PortId) (slot : Byte) (s : State) : Result :=
  .next (s.onAPort i (s.checked .aPort (require (decide (slot.toNat < 32)) .badArg) fun _ =>
    (s.selectApp (Fin.ofNat 32 slot.toNat)).reply .aPort .ok))

/-- The checks 1 and 2 of OPEN SLOT and CLOSE SLOT: the acting slot is 0, and the slot is 1 to 31. -/
def checkSlot (slot : Byte) (s : State) : Except ResultCode Nat := do
  require (decide (s.ports.acting = 0)) .notOwner
  require (decide (1 ≤ slot.toNat) && decide (slot.toNat ≤ 31)) .badArg
  return slot.toNat

/-- The checks of OPEN SLOT (R136). -/
def checkOpenSlot (slot : Byte) (s : State) : Except ResultCode Nat := do
  let n ← checkSlot slot s
  require (!decide (s.slot n = .opened)) .badArg
  require (!decide (s.slot n = .closing)) .busy
  return n

/-- OPEN SLOT (R136): a CLOSED slot becomes OPEN. -/
def execOpenSlot (i : PortId) (slot : Byte) (s : State) : Result :=
  .next (s.onAPort i (s.checked .aPort (checkOpenSlot slot s) fun n =>
    (s.setSlot n .opened).reply .aPort .ok))

/-- The checks of CLOSE SLOT (R137). -/
def checkCloseSlot (slot : Byte) (s : State) : Except ResultCode Nat := do
  let n ← checkSlot slot s
  require (decide (s.slot n = .opened)) .badArg
  return n

/-- One view of the closing slot voided with its descendants (R138 step 1): every holder but the slot
is told. -/
def State.closeView (s : State) (h : Holder) (selector : Nat) : State :=
  match s.view? ⟨h, selector⟩ with
  | none => s
  | some _ =>
    let ks := subtree s.dir.views (ViewId.key ⟨h, selector⟩)
    ({ s with dir.views := voidKeys s.dir.views ks } : State).postAll
      (parentVoidedNotices (ks.filter fun k => !decide ((ViewId.ofKey k).holder = h)))

/-- Step 1 of the teardown (R138): the slot's views in order of selector. -/
def State.closeViews (s : State) (h : Holder) : State :=
  ((List.range h.selectorRange).map (· + 1)).foldl (fun t n => t.closeView h n) s

/-- Retirement begun on a list of windows in order. -/
def State.retireAll (s : State) (cause : RetireCause) (is : List Nat) : State :=
  is.foldl (fun t i => t.beginRetirement i cause) s

/-- The indexes of the windows that meet a condition, in ascending order. -/
def windowsWhere (windows : Table Window) (p : Window → Bool) : List Nat :=
  (windows.filter fun e => p e.2).map Prod.fst

/-- Step 2 of the teardown (R138): every LIVE window of the slot begins retirement as R79 gives. That a
swap pending on it is dropped there (R73, R79), although the end of R138 says that the teardown changes no
swap pending, is the model's reading (assumption 25). -/
def State.closeWindows (s : State) (h : Holder) : State :=
  s.retireAll .slotClosed (windowsWhere s.dir.windows fun w => w.isLive && decide (w.owner = h))

/-- Step 3 of the teardown (R129, R138): waiting requests of the slot leave with MOVE_DONE ABORTED, a
running one takes the close mark. -/
def State.closeMoves (s : State) (h : Holder) : State :=
  let waiting := s.move.queue.filter fun r => decide (r.requester = h) && !r.running
  let kept := s.move.queue.filter fun r => !(decide (r.requester = h) && !r.running)
  ({ s with
    move.queue := kept.map fun r =>
      if r.requester = h then { r with closeMark := true } else r } : State).postAll
    (waiting.map fun r => Notice.moveDone h r.reference .aborted 0 0)

/-- Step 4 of the teardown (R138): the slot becomes CLOSING, or CLOSED where it owns no window that is
not FREE. -/
def State.closeState (s : State) (slot : Nat) (h : Holder) : State :=
  if s.ownsWindow h then s.setSlot slot .closing else s.completeClose slot

/-- The teardown of CLOSE SLOT (R138), in its four steps. -/
def State.teardown (s : State) (slot : Nat) : State :=
  let h : Holder := .app (Fin.ofNat 32 slot)
  (((s.closeViews h).closeWindows h).closeMoves h).closeState slot h

/-- CLOSE SLOT (R137): the answer is the state the slot reached, 00h CLOSED or 01h CLOSING. -/
def execCloseSlot (i : PortId) (slot : Byte) (s : State) : Result :=
  .next (s.onAPort i (s.checked .aPort (checkCloseSlot slot s) fun n =>
    (s.teardown n).answer .aPort .ok
      [if s.ownsWindow (.app (Fin.ofNat 32 n)) then 0x01#8 else 0x00#8]))

end Sys2Proof.Machine
end

