-- ==== Sys2Proof/Machine/Events.lean ====
section
/-! DEFINITION. The event lines, the tick and the tamper response (chapter 9).
-/

namespace Sys2Proof.Machine

/-- LINE_EDGE (R144, R145): the detector takes the new level; a qualifying edge while RUNNING on a
BINDABLE or TAMPER line delivers a line event. A level equal to the previous one is no edge, and
nothing happens. -/
def execLineEdge (line : Fin 8) (level : Bool) (s : State) : Result :=
  .next
    (if s.events.level line.val = level then s
     else
       let c := s.policy.line line.val
       let delivered :=
         if s.policy.phase = .running ∧ c.role ≠ .unused ∧ c.mode.qualifies level = true then
           s.events.lineEvents ++ [⟨line.val, c.role⟩]
         else s.events.lineEvents
       { s with
         events.levels := Table.store false s.events.levels line.val level
         events.lineEvents := delivered })

/-- The first line event of a line that waits for the Directory carries the role: each line's events
are taken in the order of its edges (R145). -/
def EventUnit.isDue (e : EventUnit) (line : Nat) (role : LineRole) : Bool :=
  decide ((e.lineEvents.find? fun x => decide (x.line = line)) = some ⟨line, role⟩)

/-- The line events that wait after the first of a line is taken. -/
def State.takeLineEvent (s : State) (line : Nat) : State :=
  { s with
    events.lineEvents := s.events.lineEvents.eraseP fun x => decide (x.line = line) }

/-- A line event acts on one window bound to its line (R146), by the window as it stands. -/
def State.lineAction (s : State) (line i : Nat) : State :=
  match s.window? i with
  | none => s
  | some w =>
    if w.isLiveBound line then
      match w.binding.map Binding.action with
      | some .retire => s.beginRetirement i .line
      | some .swap => s.requestExchange i w .line
      | none => s
    else s

/-- LINE_EVENT (R146): every LIVE window bound to the line acts, in ascending order of index; not due,
and nothing happens, unless an event of this BINDABLE line waits (assumption 1). -/
def execLineEvent (line : Fin 8) (s : State) : Result :=
  .next
    (if s.events.isDue line.val .bindable then
      (windowsWhere s.dir.windows fun w => w.isLiveBound line.val).foldl
        (fun t i => t.lineAction line.val i) (s.takeLineEvent line.val)
    else s)

/-- TAMPER_LINE_EVENT (R151): the latch is set, every LIVE GUARDED window begins retirement in
ascending order of index, and TAMPER is posted to P and then to N with the number of them; not due,
and nothing happens, unless an event of this TAMPER line waits (assumption 1). -/
def execTamperLineEvent (line : Fin 8) (s : State) : Result :=
  .next
    (if s.events.isDue line.val .tamper then
      let reached := windowsWhere s.dir.windows Window.isLiveGuarded
      let latched : State := { s.takeLineEvent line.val with dir.tamper := true }
      (latched.retireAll .tamper reached).postAll
        [Notice.tamper .payment line.val reached.length,
         Notice.tamper .radio line.val reached.length]
    else s)

/-- TICK_EMIT (R148): the divider expires, starts its next millisecond and sends a tick, in every
device phase. -/
def execTickEmit (s : State) : Result :=
  .next { s with events.divider := 0, events.ticks := s.events.ticks + 1 }

/-- A tick acts on one window (R17, R149): a LIVE window's lifetime is lowered by 1, and one lowered
from 1 becomes absent and the window begins retirement with cause EXPIRED. -/
def State.tickWindow (s : State) (i : Nat) : State :=
  match s.window? i with
  | none => s
  | some w =>
    if w.isLive then
      match w.lifetime with
      | none => s
      | some n =>
        if n ≤ 1 then (s.putWindow i { w with lifetime := none }).beginRetirement i .expired
        else s.putWindow i { w with lifetime := some (n - 1) }
    else s

/-- The taking of one waiting tick over the whole Window Table, in ascending order of index (R149). -/
def State.takeTick (s : State) : State :=
  (windowsWhere s.dir.windows Window.isLive).foldl State.tickWindow
    { s with events.ticks := s.events.ticks - 1 }

/-- TICK (R149): not due, and nothing happens, unless a tick waits (assumption 1). -/
def execTick (s : State) : Result :=
  .next (if s.events.ticks = 0 then s else s.takeTick)

/-- LIFETIME_EXPIRY (R17): the tick event that ends the lifetime of one window. The expiry happens in
the event of the tick that lowers the lifetime from 1, which is one event over the whole table
(R149), so this row takes a waiting tick; not due, and nothing happens, unless a tick waits and this
window's lifetime stands at 1 (assumptions 1 and 10). -/
def execLifetimeExpiry (window : Nat) (s : State) : Result :=
  .next
    (match s.window? window with
     | none => s
     | some w => if s.events.ticks ≠ 0 ∧ w.expires = true then s.takeTick else s)

end Sys2Proof.Machine
end

