-- ==== Sys2Proof/Machine/Moves.lean ====
section
/-! DEFINITION. MOVE and the Move Engine's events (chapter 7).
-/

namespace Sys2Proof.Machine

/-- The bytes of the source range: the count, or the fill unit in FILL (R118 check 8). -/
def MoveMode.sourceSpan (m : MoveMode) (count : Nat) : Nat :=
  match m with
  | .copy => count
  | .descend => count
  | .fill unit => unit

/-- The alignment of a move (R118 check 7, R121 check 4): each unit divides its window's offset, the
destination's unit divides the count, the source's unit divides the source span, and in FILL the fill
unit divides the count. -/
def MoveMode.aligned (m : MoveMode) (srcUnit dstUnit srcOffset dstOffset count : Nat) : Bool :=
  decide (srcUnit ∣ srcOffset) && decide (dstUnit ∣ dstOffset) && decide (dstUnit ∣ count)
    && decide (srcUnit ∣ m.sourceSpan count)
    && match m with
       | .copy => true
       | .descend => true
       | .fill unit => decide (unit ∣ count)

/-- The rights of one side of a move: the right of the side, and SWAP where it names SHADOW (R118
check 5, R121 check 3, R125 step 4). -/
def sideRights (right : Bool) (r : Rights) (shadow : Bool) : Bool := right && (!shadow || r.swap)

/-- The requests of the queue whose requester port is `i` (R117). -/
def requestsOf (i : PortId) (queue : List MoveRequest) : Nat :=
  (queue.filter fun r => decide (r.requester.port = i)).length

/-- The checks of MOVE at its taking (R118), in their order; what passes is the request that joins the
queue (R119). -/
def checkMove (i : PortId) (a : MoveParams) (s : State) : Except ResultCode MoveRequest := do
  let h := s.caller i
  require (s.active h) .holderClosed
  require (decide (a.srcSelector ≠ 0#8) && decide (a.dstSelector ≠ 0#8)) .nullSelector
  require (decide (a.srcSelector.toNat ≤ h.selectorRange)
    && decide (a.dstSelector.toNat ≤ h.selectorRange)) .badArg
  let sv ← found (s.view? ⟨h, a.srcSelector.toNat⟩) .stale
  let sw ← s.liveWindow sv.window
  let dv ← found (s.view? ⟨h, a.dstSelector.toNat⟩) .stale
  let dw ← s.liveWindow dv.window
  require (sideRights sv.rights.read sv.rights (decide (a.srcBank = 0x01#8))
    && sideRights dv.rights.write dv.rights (decide (a.dstBank = 0x01#8))) .rights
  let srcName ← found (BankName.ofByte? a.srcBank) .badArg
  let dstName ← found (BankName.ofByte? a.dstBank) .badArg
  let mode ← found (MoveMode.ofBytes? a.mode a.fillUnit) .badArg
  require (decide (1 ≤ a.count.toNat) && decide (a.count.toNat ≤ 65536)) .badArg
  let srcBank ← found ((sw.resolve srcName).bind sw.bank?) .badArg
  let dstBank ← found ((dw.resolve dstName).bind dw.bank?) .badArg
  require (mode.aligned sw.unit dw.unit a.srcOffset.toNat a.dstOffset.toNat a.count.toNat) .align
  require (decide (a.srcOffset.toNat + mode.sourceSpan a.count.toNat ≤ srcBank.limit)
    && decide (a.dstOffset.toNat + a.count.toNat ≤ dstBank.limit)) .limit
  require (!(decide (sw.cls = .guarded) && decide (dw.cls = .common))) .classRefused
  require (decide (s.move.queue.length < Config.moveQueueTotal)
    && decide (requestsOf i s.move.queue < Config.moveQueuePerPort)) .queueFull
  return {
    requester := h, reference := a.reference
    srcSelector := a.srcSelector.toNat, srcBank := srcName, srcOffset := a.srcOffset.toNat
    dstSelector := a.dstSelector.toNat, dstBank := dstName, dstOffset := a.dstOffset.toNat
    count := a.count.toNat, mode := mode, progress := 0, running := false, resolved := none
    resetMark := false, closeMark := false }

/-- MOVE (R118, R119): the request joins the tail of the Move Queue. -/
def execMove (i : PortId) (a : MoveParams) (s : State) : Result :=
  .next (s.onIdle i (s.checked i (checkMove i a s) fun r =>
    ({ s with move.queue := s.move.queue ++ [r] } : State).reply i .ok))

/-! ### The engine -/

/-- The request at the head of the queue, while the engine is in a given state. -/
def State.moveHead (s : State) (x : MoveState) : Option MoveRequest :=
  if s.move.state = x then s.move.queue.head? else none

/-- The queue with its head replaced. -/
def State.setMoveHead (s : State) (r : MoveRequest) : State :=
  { s with move.queue := r :: s.move.queue.tail }

/-- MOVE_TAKE_HEAD (R120): the idle engine takes the head, marks it running and asks for the start
check, its corrected word count at 0 (assumption 22); not due, and nothing happens, while it is busy or the queue is empty (assumption 1). -/
def execMoveTakeHead (s : State) : Result :=
  .next
    (match s.moveHead .idle with
     | none => s
     | some r =>
       { s.setMoveHead { r with running := true } with
         move.state := .startCheck
         move.corrected := 0 })

/-- The checks of the start (R121, 1 to 7), in their order: what passes is the resolved record, what
fails is the code of the move's end. -/
def checkStart (s : State) (r : MoveRequest) : Except ResultCode Resolved := do
  require (s.active r.requester && !r.closeMark) .aborted
  let sv ← found (s.view? ⟨r.requester, r.srcSelector⟩) .stale
  let sw ← s.liveWindow sv.window
  let dv ← found (s.view? ⟨r.requester, r.dstSelector⟩) .stale
  let dw ← s.liveWindow dv.window
  require (sideRights sv.rights.read sv.rights (decide (r.srcBank = .shadow))
    && sideRights dv.rights.write dv.rights (decide (r.dstBank = .shadow))) .rights
  require (r.mode.aligned sw.unit dw.unit r.srcOffset r.dstOffset r.count) .align
  let srcNo ← found (sw.resolve r.srcBank) .limit
  let dstNo ← found (dw.resolve r.dstBank) .limit
  let srcBank ← found (sw.bank? srcNo) .limit
  let dstBank ← found (dw.bank? dstNo) .limit
  require (decide (r.srcOffset + r.mode.sourceSpan r.count ≤ srcBank.limit)
    && decide (r.dstOffset + r.count ≤ dstBank.limit)) .limit
  require (sw.swapPending.isNone && dw.swapPending.isNone) .windowBusy
  require (!(decide (sw.cls = .guarded) && decide (dw.cls = .common))) .classRefused
  return ⟨sv.window, srcNo, dv.window, dstNo⟩

/-- A window pinned by the running move (R7, R121). -/
def State.pin (s : State) (i : Nat) : State :=
  match s.window? i with
  | none => s
  | some w => s.putWindow i { w with pinned := true }

/-- A move started (R121): the resolved record is filled, both windows are pinned, and the engine asks
the arbiter for the fill pattern in FILL and for the first chunk otherwise. -/
def State.startMove (s : State) (r : MoveRequest) (x : Resolved) : State :=
  { ((s.setMoveHead { r with resolved := some x }).pin x.srcWindow).pin x.dstWindow with
    move.state :=
      match r.mode with
      | .fill _ => .pattern
      | .copy => .chunkGrant
      | .descend => .chunkGrant }

/-- START_CHECK (R121): a failed check is the end event of the move, with the code of the check and 0
bytes (R127); a set reset mark ends it after all other checks, with no MOVE_DONE (R128). -/
def execStartCheck (s : State) : Result :=
  .next
    (match s.moveHead .startCheck with
     | none => s
     | some r =>
       match checkStart s r with
       | .error code => s.endMove r code false
       | .ok x => if r.resetMark then s.endMove r .aborted false else s.startMove r x)

/-- The bytes of the next chunk: at most 64, the rest of the move where that is less (R123). -/
def MoveRequest.chunkLength (r : MoveRequest) : Nat := min Config.chunkBytes (r.count - r.progress)

/-- The first byte of the next chunk: ascending in COPY and FILL, descending in DESCEND (R123). -/
def MoveRequest.chunkStart (r : MoveRequest) : Nat :=
  match r.mode with
  | .copy => r.progress
  | .fill _ => r.progress
  | .descend => r.count - r.progress - r.chunkLength

/-- The chunk check (R125): what passes lets the chunk be requested, what fails ends the move
ABORTED. -/
def checkChunk (s : State) (r : MoveRequest) : Except ResultCode Unit := do
  require (s.active r.requester && !r.closeMark) .aborted
  let x ← found r.resolved .aborted
  let sv ← found (s.view? ⟨r.requester, r.srcSelector⟩) .aborted
  require (decide (sv.window = x.srcWindow)) .aborted
  let dv ← found (s.view? ⟨r.requester, r.dstSelector⟩) .aborted
  require (decide (dv.window = x.dstWindow)) .aborted
  let sw ← found (s.window? x.srcWindow) .aborted
  let dw ← found (s.window? x.dstWindow) .aborted
  require (sw.isLive && dw.isLive) .aborted
  require (sideRights sv.rights.read sv.rights (decide (r.srcBank = .shadow))
    && sideRights dv.rights.write dv.rights (decide (r.dstBank = .shadow))) .aborted
  require (!r.resetMark) .aborted

/-- CHUNK_CHECK (R125): a failed check is the end event of the move (R127). -/
def execChunkCheck (s : State) : Result :=
  .next
    (match s.moveHead .chunkCheck with
     | none => s
     | some r =>
       match checkChunk s r with
       | .error code => s.endMove r code false
       | .ok _ => { s with move.state := .chunkGrant })

/-- The running request and its resolved record, where the arbiter grants the Move Engine next while
it is in a given state. -/
def State.grantedMove (s : State) (x : MoveState) : Option (MoveRequest × Resolved) :=
  if s.granted .moveEngine then
    match s.moveHead x with
    | none => none
    | some r => r.resolved.map fun y => (r, y)
  else none

/-- The fill-pattern read performed (R124, R126): an uncorrectable word ends the move with DATA_ERROR,
otherwise the store's first bytes are replaced; the words delivered corrected are counted. That a read
which finds an uncorrectable word leaves the store as it stood, and that it is counted all the same, are
the model's readings (assumptions 21 and 13). -/
def State.performPattern (s : State) (unit address : Nat) : State :=
  let words := touchedWords address unit
  let corrected := s.move.corrected + s.xm.countCorrected words
  if s.xm.countUncorrectable words ≠ 0 then
    { s with move.state := .moveEnd true, move.corrected := corrected }
  else
    { s with
      move.pattern := Table.writeRun 0#8 s.move.pattern 0 (s.xm.readRange address unit)
      move.state := .chunkCheck
      move.corrected := corrected }

/-- FILL_PATTERN_READ (R124): not due, and nothing happens, unless the arbiter grants the engine's
pattern read next (assumption 1). -/
def execFillPatternRead (flips : List BitFlip) (s : State) : Result :=
  match s.grantedMove .pattern with
  | none => .next s
  | some (r, x) =>
    match s.rangeAddress? x.srcWindow x.srcBank r.srcOffset (r.mode.sourceSpan r.count) with
    | none => .fault .noSuchAddress
    | some address =>
      .next ((s.beginGrant .moveEngine flips).performPattern (r.mode.sourceSpan r.count) address)

/-- The pattern bytes of a FILL chunk: destination byte `j` of the move receives pattern byte
`j mod unit` (R123). -/
def MoveEngine.patternRun (m : MoveEngine) (unit start length : Nat) : List Byte :=
  (List.range length).map fun k => Table.value 0#8 m.pattern ((start + k) % unit)

/-- A chunk that is written (R126): the destination bytes, the progress and the corrected word count,
to which every merged destination word, corrected or uncorrectable, adds. -/
def State.writeChunk (s : State) (r : MoveRequest) (dst : Nat) (data : List Byte)
    (sourceCorrected : Nat) : State :=
  let merged := mergedWords dst data.length
  let done := r.progress + data.length
  { s.setMoveHead { r with progress := done } with
    xm := s.xm.writeRange dst data
    move.state := if done = r.count then .moveEnd false else .chunkCheck
    move.corrected :=
      s.move.corrected + sourceCorrected + s.xm.countCorrected merged
        + s.xm.countUncorrectable merged }

/-- A COPY or DESCEND chunk (R126): every source byte is read before any destination byte is written;
an uncorrectable source word leaves the destination unwritten and ends the move with DATA_ERROR. -/
def State.performCopyChunk (s : State) (r : MoveRequest) (src dst : Nat) : State :=
  let words := touchedWords src r.chunkLength
  if s.xm.countUncorrectable words ≠ 0 then
    { s with
      move.state := .moveEnd true
      move.corrected := s.move.corrected + s.xm.countCorrected words }
  else s.writeChunk r dst (s.xm.readRange src r.chunkLength) (s.xm.countCorrected words)

/-- A FILL chunk (R126): written from the store, no source word read. -/
def State.performFillChunk (s : State) (r : MoveRequest) (unit dst : Nat) : State :=
  s.writeChunk r dst (s.move.patternRun unit r.chunkStart r.chunkLength) 0

/-- MOVE_CHUNK_GRANT (R126): not due, and nothing happens, unless the arbiter grants the engine's chunk
next (assumption 1). -/
def execMoveChunkGrant (flips : List BitFlip) (s : State) : Result :=
  match s.grantedMove .chunkGrant with
  | none => .next s
  | some (r, x) =>
    match s.rangeAddress? x.dstWindow x.dstBank (r.dstOffset + r.chunkStart) r.chunkLength with
    | none => .fault .noSuchAddress
    | some dst =>
      match r.mode with
      | .fill unit => .next ((s.beginGrant .moveEngine flips).performFillChunk r unit dst)
      | .copy =>
        match s.rangeAddress? x.srcWindow x.srcBank (r.srcOffset + r.chunkStart) r.chunkLength with
        | none => .fault .noSuchAddress
        | some src => .next ((s.beginGrant .moveEngine flips).performCopyChunk r src dst)
      | .descend =>
        match s.rangeAddress? x.srcWindow x.srcBank (r.srcOffset + r.chunkStart) r.chunkLength with
        | none => .fault .noSuchAddress
        | some src => .next ((s.beginGrant .moveEngine flips).performCopyChunk r src dst)

/-- MOVE_END (R127): the end event after a pattern read or a chunk, with OK after the last chunk and
with DATA_ERROR after an uncorrectable source word. -/
def execMoveEnd (s : State) : Result :=
  .next
    (match s.moveHead (.moveEnd false), s.moveHead (.moveEnd true) with
     | some r, _ => s.endMove r .ok false
     | none, some r => s.endMove r .dataError true
     | none, none => s)

end Sys2Proof.Machine
end

