-- ==== Sys2Proof/Machine/PolicyCommands.lean ====
section
/-! DEFINITION. The policy commands and CLEAR TAMPER (chapters 9 and 11).
-/

namespace Sys2Proof.Machine

/-- Checks 1 and 2 of every policy command (R171): it came on the P-port, and the policy is not
locked. -/
def checkPolicy (i : PortId) (s : State) : Except ResultCode Unit := do
  require (decide (i = .pPort)) .notReady
  require (!decide (s.policy.phase = .running)) .locked

/-- A reserve size of the N reserve (R105). -/
def nReserveSize (n : Nat) : Bool := [0, 128, 256, 512].contains n

/-- A reserve size of the P reserve (R105). -/
def pReserveSize (n : Nat) : Bool := [0, 128, 256, 512, 1024].contains n

/-- The checks of SET POOLS (R171, R172). -/
def checkSetPools (i : PortId) (nReserve pReserve : BitVec 16) (s : State) :
    Except ResultCode Unit := do
  checkPolicy i s
  require (nReserveSize nReserve.toNat && pReserveSize pReserve.toNat) .badArg

/-- SET POOLS (R172): both reserve sizes at once. -/
def execSetPools (i : PortId) (nReserve pReserve : BitVec 16) (s : State) : Result :=
  .next (s.onIdle i (s.checked i (checkSetPools i nReserve pReserve s) fun _ =>
    ({ s with
      policy.nReserve := nReserve.toNat
      policy.pReserve := pReserve.toNat } : State).reply i .ok))

/-- The policy with one quota pair replaced, by the quota class: 00h P, 01h N, 20h the A-system, 21h
the app slots (12.1). -/
def Policy.setQuota? (x : Policy) (cls : Byte) (q : Quota) : Option Policy :=
  if cls = 0x00#8 then some { x with quotaP := q }
  else if cls = 0x01#8 then some { x with quotaN := q }
  else if cls = 0x20#8 then some { x with quotaSystem := q }
  else if cls = 0x21#8 then some { x with quotaApp := q }
  else none

/-- The checks of SET QUOTA (R171, R172): a window limit above 255 does not fit its byte. -/
def checkSetQuota (i : PortId) (cls windows : Byte) (pages : BitVec 16) (s : State) :
    Except ResultCode Policy := do
  checkPolicy i s
  require (decide (pages.toNat ≤ 2048)) .badArg
  found (s.policy.setQuota? cls ⟨windows.toNat, pages.toNat⟩) .badArg

/-- SET QUOTA (R172): one quota pair. -/
def execSetQuota (i : PortId) (cls windows : Byte) (pages : BitVec 16) (s : State) : Result :=
  .next (s.onIdle i (s.checked i (checkSetQuota i cls windows pages s) fun x =>
    ({ s with policy := x } : State).reply i .ok))

/-- The checks of SET LINE (R171, R172). -/
def checkSetLine (i : PortId) (line role mode : Byte) (s : State) :
    Except ResultCode LineConfig := do
  checkPolicy i s
  require (decide (line.toNat < 8)) .badArg
  let r ← found (LineRole.ofByte? role) .badArg
  let m ← found (EdgeMode.ofByte? mode) .badArg
  return ⟨r, m⟩

/-- SET LINE (R172): the role and the edge mode of one line. -/
def execSetLine (i : PortId) (line role mode : Byte) (s : State) : Result :=
  .next (s.onIdle i (s.checked i (checkSetLine i line role mode s) fun c =>
    ({ s with
      policy.lines := Table.store LineConfig.initial s.policy.lines line.toNat c } : State).reply
        i .ok))

/-- LOCK POLICY (R173): the phase becomes RUNNING. -/
def execLockPolicy (i : PortId) (s : State) : Result :=
  .next (s.onIdle i (s.checked i (checkPolicy i s) fun _ =>
    ({ s with policy.phase := .running } : State).reply i .ok))

/-- The checks of CLEAR TAMPER (R153). -/
def checkClearTamper (i : PortId) (s : State) : Except ResultCode Unit := do
  require (decide (i = .pPort)) .notOwner
  require (decide (s.policy.phase = .running)) .notReady
  require (!s.dir.windows.any fun e => decide (e.2.cls = .guarded)) .busy

/-- CLEAR TAMPER (R153): the latch becomes clear. -/
def execClearTamper (i : PortId) (s : State) : Result :=
  .next (s.onIdle i (s.checked i (checkClearTamper i s) fun _ =>
    ({ s with dir.tamper := false } : State).reply i .ok))

end Sys2Proof.Machine
end

