-- ==== Sys2Proof/Machine/Ports.lean ====
section
/-! DEFINITION. The commands that the port itself owns and the frames that end in no command:
READ STATUS, READ NOTICE, PORT RESET, the three staging commands, FRAME_REJECTED and FRAME_DISCARDED
(chapters 3 and 10).
-/

namespace Sys2Proof.Machine

/-- READ STATUS (R162): taken in every port state; the answer is read first, and the notices-lost flag
is clear afterwards. -/
def execReadStatus (i : PortId) (s : State) : Result :=
  .next (s.onPort i true true
    ((s.setPort i { s.port i with lost := false }).answer i .ok (s.statusBytes i)))

/-- READ NOTICE (R164): the oldest notice leaves the queue and is returned, or a NONE record where the
queue is empty. -/
def execReadNotice (i : PortId) (s : State) : Result :=
  .next (s.onPort i true false
    (match (s.port i).notices with
     | [] => s.answer i .ok Notice.empty.record
     | n :: rest => (s.setPort i { s.port i with notices := rest }).answer i .ok n.record))

/-- PORT RESET (R166): it acts at once on an IDLE port, and waits for the transfer's completion on one
that is EXECUTING or RESETTING. -/
def execPortReset (i : PortId) (s : State) : Result :=
  .next (s.onPort i true false
    (match (s.port i).state with
     | .idle => (s.actReset i).answer i .ok [0x00#8]
     | .executing => (s.setPort i { s.port i with state := .resetting }).answer i .ok [0x01#8]
     | .resetting => s.answer i .ok [0x01#8]
     | .notReady => s))

/-- The check that LOAD STAGING and READ STAGING share: a count of 0, or a column plus count above
512, is refused BAD_ARG (R44, R45). -/
def checkColumns (column count : BitVec 16) : Except ResultCode Unit :=
  require (decide (count.toNat ≠ 0) && decide (column.toNat + count.toNat ≤ Config.stagingBytes))
    .badArg

/-- LOAD STAGING (R44): a payload that is not as long as the count says is answered FRAME before the
busy rule (R158 step 3); otherwise the payload goes into the columns from the given one on, and the
guarded mark stays. -/
def execLoadStaging (i : PortId) (column count : BitVec 16) (payload : List Byte) (s : State) :
    Result :=
  .next
    (if payload.length = count.toNat then
      s.onIdle i (s.checked i (checkColumns column count) fun _ =>
        (s.setPort i
          { s.port i with
            staging := Table.writeRun 0#8 (s.port i).staging column.toNat payload }).reply i .ok)
    else s.reply i .frame)

/-- READ STAGING (R45): the bytes of a run of columns, in column order; nothing changes. -/
def execReadStaging (i : PortId) (column count : BitVec 16) (s : State) : Result :=
  .next (s.onIdle i (s.checked i (checkColumns column count) fun _ =>
    s.answer i .ok (Table.readRun 0#8 (s.port i).staging column.toNat count.toNat)))

/-- CLEAR STAGING (R46): zero in all 512 columns, and the guarded mark clear. -/
def execClearStaging (i : PortId) (s : State) : Result :=
  .next (s.onIdle i
    ((s.setPort i { s.port i with staging := [], mark := false }).reply i .ok))

/-- FRAME_REJECTED (R158): a complete request that fails the judgement is answered FRAME or UNKNOWN in
every port state, and changes nothing. Bytes that pass the judgement, or are no whole request, are no
such event, and nothing happens (assumption 1). -/
def execFrameRejected (i : PortId) (bytes : List Byte) (s : State) : Result :=
  .next
    (match Frame.judge i bytes with
     | .frame => s.reply i .frame
     | .unknown => s.reply i .unknown
     | .incomplete => s
     | .taken _ => s)

/-- FRAME_DISCARDED (R157): the select window ends before the second check byte; no command is taken
and no response is driven. Bytes that are a whole request are no such event (assumption 1). -/
def execFrameDiscarded (i : PortId) (bytes : List Byte) (s : State) : Result :=
  .next
    (match Frame.judge i bytes with
     | .incomplete => s.setPort i { s.port i with response := none }
     | .frame => s
     | .unknown => s
     | .taken _ => s)

end Sys2Proof.Machine
end

