-- ==== Sys2Proof/Machine/Power.lean ====
section
/-! DEFINITION. The device reset and the start-up scrub (chapter 11).
-/

namespace Sys2Proof.Machine

/-- The previous levels of the detectors after a reset: the levels that the lines present (R155). -/
def levelsOf (levels : BitVec 8) : Table Bool :=
  (List.range 8).foldl (fun t n => Table.store false t n (levels.getLsbD n)) []

/-- DEVICE_RESET (R169): every block takes its device-reset state; the detectors take the levels their
lines present; the contents of exchange memory are what the reset leaves (R99). What was sent inside the
part and not yet taken is discarded (assumption 12), and the commands that wait at the part stay
(assumption 19). -/
def execDeviceReset (levels : BitVec 8) (flips : List BitFlip) (s : State) : Result :=
  .next
    { State.reset with
      pending := s.pending
      xm := s.xm.disturb flips
      events := ⟨levelsOf levels, [], 0, 0⟩ }

/-- The page of the start-up scrub whose grant is due (R170): its request waits, or the engine is about
to make the first request after the reset, which no row of its own makes (assumption 7). -/
def State.startupPage (s : State) : Option Nat :=
  match s.retire.state with
  | .startUp page .toRequest =>
    if ({ s with retire.state := .startUp page .requested } : State).granted .retireEngine then
      some page
    else none
  | .startUp page .requested => if s.granted .retireEngine then some page else none
  | .startUp _ .scrubbed => none
  | .idle => none
  | .sweeping _ => none
  | .scrubbing _ _ => none
  | .freeing _ => none

/-- STARTUP_SCRUB_GRANT (R170): one page is written with zero and fresh check bits, and its release
goes to the Page Allocator. -/
def execStartupScrubGrant (s : State) : Result :=
  match s.startupPage with
  | none => .next s
  | some page =>
    if page < Config.pageTotal then
      .next
        { s.beginGrant .retireEngine [] with
          xm := s.xm.scrubPage page
          retire.state := .startUp page .scrubbed }
    else .fault .noSuchAddress

/-- STARTUP_PAGE_RELEASE (R170): the page becomes FREE; the engine requests the next page, or becomes
IDLE after page 2047 and reports the end of the scrub. -/
def execStartupPageRelease (s : State) : Result :=
  .next
    (match s.retire.state with
     | .startUp page .scrubbed =>
       if page + 1 < Config.pageTotal then
         { s.setPage page .free with retire.state := .startUp (page + 1) .requested }
       else
         { s.setPage page .free with retire.state := .idle, retire.endReport := true }
     | .startUp _ .toRequest => s
     | .startUp _ .requested => s
     | .idle => s
     | .sweeping _ => s
     | .scrubbing _ _ => s
     | .freeing _ => s)

/-- SCRUB_END (R170): the phase becomes CONFIGURING and all three ports become IDLE. -/
def execScrubEnd (s : State) : Result :=
  .next
    (if s.retire.endReport then
      { s with
        policy.phase := .configuring
        retire.endReport := false
        ports := { s.ports with
          p := { s.ports.p with state := .idle }
          n := { s.ports.n with state := .idle }
          a := { s.ports.a with state := .idle } } }
    else s)

end Sys2Proof.Machine
end

