-- ==== Sys2Proof/Machine/Retire.lean ====
section
/-! DEFINITION. The Retire Engine's events: the taking of a window, its sweep, its scrub page by page
and its freeing (chapter 5).
-/

namespace Sys2Proof.Machine

/-- The record that the engine fills when it takes a window (R87). The rule names no root selector and no
damaged flag before the sweep hands them: 0 and clear are the model's choice (assumption 20). -/
def Window.retireRecord (w : Window) (i : Nat) (cause : RetireCause) : RetireRecord where
  window := i
  owner := w.owner
  cause := cause
  rootSelector := 0
  damaged := false
  bank := .zero
  page := w.bank0.firstPage

/-- The window at the head of the Retire Queue, with its index, its retire cause and the queue's rest,
while the engine is IDLE. A window on the queue has a cause (R79). -/
def State.retireHead (s : State) : Option (Nat × Window × RetireCause × List Nat) :=
  match s.retire.state, s.retire.queue with
  | .idle, i :: rest =>
    match s.window? i with
    | none => none
    | some w => w.cause.map fun c => (i, w, c, rest)
  | _, _ => none

/-- RETIRE_TAKE_HEAD (R87): the index leaves the queue, the record is filled, the window becomes
CLEARING and the sweep is asked; not due, and nothing happens, while the engine is busy or the queue
is empty (assumption 1). -/
def execRetireTakeHead (s : State) : Result :=
  .next
    (match s.retireHead with
     | none => s
     | some (i, w, c, rest) =>
       { s.putWindow i { w with state := .clearing } with
         retire.queue := rest
         retire.state := .sweeping (w.retireRecord i c) })

/-- The scrub of the record's page requested: the Page Allocator marks it SCRUBBING in the same event
(R89 step 1). -/
def State.requestScrub (s : State) (r : RetireRecord) : State :=
  { s.setPage r.page .scrubbing with retire.state := .scrubbing r .requested }

/-- SWEEP (R88): every VALID view of the window is voided in tree order and its holder told with cause
RETIRED; the root selector and the damaged flag go into the record, and the first page is requested
(R89). -/
def execSweep (s : State) : Result :=
  .next
    (match s.retire.state with
     | .sweeping r =>
       let ks := windowWalk s.dir.views r.window
       let record :=
         { r with
           rootSelector := rootSelector s.dir.views r.window
           damaged := ((s.window? r.window).map Window.damaged).getD false }
       let swept :=
         ({ s with dir.views := voidKeys s.dir.views ks } : State).postAll
           (ks.map fun k => Notice.viewVoided (ViewId.ofKey k) .retired)
       swept.requestScrub record
     | .startUp _ _ => s
     | .idle => s
     | .scrubbing _ _ => s
     | .freeing _ => s)

/-- PAGE_SCRUB_GRANT (R89 step 2): the page is written with zero and fresh check bits, no word read;
not due, and nothing happens, unless the arbiter grants the engine next (assumption 1). -/
def execPageScrubGrant (s : State) : Result :=
  match s.retire.state with
  | .scrubbing r .requested =>
    if s.granted .retireEngine then
      if r.page < Config.pageTotal then
        .next
          { s.beginGrant .retireEngine [] with
            xm := s.xm.scrubPage r.page
            retire.state := .scrubbing r .scrubbed }
      else .fault .noSuchAddress
    else .next s
  | .scrubbing _ .toRequest => .next s
  | .scrubbing _ .scrubbed => .next s
  | .startUp _ _ => .next s
  | .idle => .next s
  | .sweeping _ => .next s
  | .freeing _ => .next s

/-- The scrub position after a page (R89): the next page of the bank, then the first page of bank 1, or
`none` after the window's last page. -/
def Window.nextScrub (w : Window) (n : BankNo) (page : Nat) : Option (BankNo × Nat) :=
  match w.bank? n with
  | none => none
  | some b =>
    if page + 1 < b.firstPage + b.pageCount then some (n, page + 1)
    else
      match n with
      | .one => none
      | .zero => w.bank1.map fun b1 => (.one, b1.firstPage)

/-- PAGE_RELEASE (R89 step 3): the page becomes FREE, the owner's page charge falls by 1, and the engine
requests the next page, or asks the Directory to free the window after the last (R90). The rule has the
position advance to the next page, of which there is none after the last: that it then stays at the last
page until the freeing is the model's choice (assumption 24). -/
def execPageRelease (s : State) : Result :=
  .next
    (match s.retire.state with
     | .scrubbing r .scrubbed =>
       let c := s.counter r.owner
       let released := (s.setPage r.page .free).setCounter r.owner ⟨c.windows, c.pages - 1⟩
       match (s.window? r.window).bind fun w => w.nextScrub r.bank r.page with
       | some (n, page) => released.requestScrub { r with bank := n, page := page }
       | none => { released with retire.state := .freeing r }
     | .scrubbing _ .toRequest => s
     | .scrubbing _ .requested => s
     | .startUp _ _ => s
     | .idle => s
     | .sweeping _ => s
     | .freeing _ => s)

/-- The entry of a cleared window returned to FREE, and its owner's window count lowered by 1
(R11, R90). -/
def State.freeEntry (s : State) (r : RetireRecord) : State :=
  let c := s.counter r.owner
  ({ s with dir.windows := Table.remove s.dir.windows r.window } : State).setCounter r.owner
    ⟨c.windows - 1, c.pages⟩

/-- The close of an app slot completed where this was the last window it owned (R91). -/
def State.closeIfLast (s : State) (h : Holder) : State :=
  match h with
  | .payment => s
  | .radio => s
  | .app slot =>
    if s.slot slot.val = .closing ∧ s.ownsWindow h = false then s.completeClose slot.val else s

/-- WINDOW_FREEING (R90, R91): the entry becomes FREE, RETIRE_DONE is posted to the owner, the close of
a closing slot is completed where due, and the engine becomes IDLE. -/
def execWindowFreeing (s : State) : Result :=
  .next
    (match s.retire.state with
     | .freeing r =>
       { ((s.freeEntry r).post (Notice.retireDone r)).closeIfLast r.owner with
         retire.state := .idle }
     | .startUp _ _ => s
     | .idle => s
     | .sweeping _ => s
     | .scrubbing _ _ => s)

end Sys2Proof.Machine
end

