-- ==== Sys2Proof/Machine/Transfers.lean ====
section
/-! DEFINITION. PUT and FETCH: admission, the two grants and the completion (chapter 3).
-/

namespace Sys2Proof.Machine

/-- The checks of admission (R48), in their order; what passes is the transfer that the port then
holds (R49). -/
def checkAdmission (kind : TransferKind) (i : PortId) (a : TransferParams) (s : State) :
    Except ResultCode (Transfer × Window) := do
  let v ← s.callerView (s.caller i) a.selector
  let w ← s.liveWindow v.window
  require (v.rights.permits kind) .rights
  require (!(decide (a.bank = 0x01#8) && w.bank1.isSome) || v.rights.swap) .rights
  let name ← found (BankName.ofByte? a.bank) .badArg
  let bankNo ← found (w.resolve name) .badArg
  let bank ← found (w.bank? bankNo) .badArg
  require (decide (a.count.toNat ≠ 0)
    && decide (a.column.toNat + a.count.toNat ≤ Config.stagingBytes)) .badArg
  require (decide (w.unit ∣ a.offset.toNat) && decide (w.unit ∣ a.count.toNat)) .align
  require (decide (a.offset.toNat + a.count.toNat ≤ bank.limit)) .limit
  require w.swapPending.isNone .windowBusy
  require (!(decide (kind = .put) && (s.port i).mark && decide (w.cls = .common))) .classRefused
  return (⟨kind, v.window, bankNo, a.offset.toNat, a.column.toNat, a.count.toNat⟩, w)

/-- Admission (R49): the in-flight count rises, the port holds the transfer, becomes EXECUTING and
waits at the arbiter, and the answer is ACCEPTED. -/
def State.acceptTransfer (s : State) (i : PortId) (t : Transfer) (w : Window) : State :=
  ((s.putWindow t.window { w with inFlight := w.inFlight + 1 }).setPort i
    { s.port i with state := .executing, transfer := some t, completion := none }).reply i .accepted

/-- PUT (R47 to R49). -/
def execPut (i : PortId) (a : TransferParams) (s : State) : Result :=
  .next (s.onIdle i (s.checked i (checkAdmission .put i a s) fun x => s.acceptTransfer i x.1 x.2))

/-- FETCH (R47 to R49). -/
def execFetch (i : PortId) (a : TransferParams) (s : State) : Result :=
  .next (s.onIdle i (s.checked i (checkAdmission .fetch i a s) fun x => s.acceptTransfer i x.1 x.2))

/-- The transfer of a kind that a port holds and that the arbiter grants next (R113). -/
def State.grantedTransfer (s : State) (i : PortId) (kind : TransferKind) : Option Transfer :=
  if s.granted (.port i) then (s.port i).transfer.filter fun t => decide (t.kind = kind) else none

/-- A granted PUT (R52): the bytes of the staging buffer are written into the recorded bank, partly
covered words are merged, and the completion reports the merged words corrected and uncorrectable. -/
def State.performPut (s : State) (i : PortId) (t : Transfer) (address : Nat) : State :=
  let merged := mergedWords address t.count
  { s.setPort i
      { s.port i with
        completion := some ⟨s.xm.countCorrected merged, s.xm.countUncorrectable merged⟩ } with
    xm := s.xm.writeRange address (Table.readRun 0#8 (s.port i).staging t.column t.count) }

/-- PUT_GRANT (R51, R52): not due, and nothing happens, unless the arbiter grants this port a PUT next
(assumption 1). -/
def execPutGrant (i : PortId) (flips : List BitFlip) (s : State) : Result :=
  match s.grantedTransfer i .put with
  | none => .next s
  | some t =>
    match s.rangeAddress? t.window t.bank t.offset t.count with
    | none => .fault .noSuchAddress
    | some address => .next ((s.beginGrant (.port i) flips).performPut i t address)

/-- The window of an index is GUARDED. -/
def State.isGuarded (s : State) (i : Nat) : Bool :=
  decide ((s.window? i).map Window.cls = some .guarded)

/-- A granted FETCH (R53, R54): the bytes of the recorded bank go into the staging columns, zero where
their word is uncorrectable; the guarded mark is set for a GUARDED window; exchange memory is not
written. -/
def State.performFetch (s : State) (i : PortId) (t : Transfer) (address : Nat) : State :=
  let words := touchedWords address t.count
  s.setPort i
    { s.port i with
      staging :=
        Table.writeRun 0#8 (s.port i).staging t.column (s.xm.readRange address t.count)
      mark := (s.port i).mark || s.isGuarded t.window
      completion := some ⟨s.xm.countCorrected words, s.xm.countUncorrectable words⟩ }

/-- FETCH_GRANT (R51, R53, R54): not due, and nothing happens, unless the arbiter grants this port a
FETCH next (assumption 1). -/
def execFetchGrant (i : PortId) (flips : List BitFlip) (s : State) : Result :=
  match s.grantedTransfer i .fetch with
  | none => .next s
  | some t =>
    match s.rangeAddress? t.window t.bank t.offset t.count with
    | none => .fault .noSuchAddress
    | some address => .next ((s.beginGrant (.port i) flips).performFetch i t address)

/-- The in-flight count of a window lowered by 1 (R55 step 1). -/
def State.lowerInFlight (s : State) (i : Nat) : State :=
  match s.window? i with
  | none => s
  | some w => s.putWindow i { w with inFlight := w.inFlight - 1 }

/-- The last result that a completion leaves (R56). -/
def completionResult (t : Transfer) (c : Completion) : LastResult :=
  ⟨if t.kind = .fetch ∧ c.uncorrectable ≠ 0 then .dataError else .ok, t.count, c.corrected,
    c.uncorrectable⟩

/-- The completion of a transfer (R55, R57): the count falls, the damaged flag is set for a FETCH that
read an uncorrectable word, the quiet-point action is taken, the last result is set and the port
becomes IDLE; on a RESETTING port the port reset then acts. -/
def State.complete (s : State) (i : PortId) (t : Transfer) (c : Completion) : State :=
  let lowered := s.lowerInFlight t.window
  let damaged :=
    if t.kind = .fetch ∧ c.uncorrectable ≠ 0 then lowered.setDamaged t.window else lowered
  let quiet := damaged.quietPoint t.window
  let idle := quiet.setPort i
    { quiet.port i with
      state := .idle, transfer := none, completion := none, last := completionResult t c }
  if (s.port i).state = .resetting then idle.actReset i else idle

/-- TRANSFER_COMPLETION (R55): not due, and nothing happens, unless the port has sent a completion
(assumption 1). -/
def execTransferCompletion (i : PortId) (s : State) : Result :=
  .next
    (match (s.port i).transfer, (s.port i).completion with
     | some t, some c => s.complete i t c
     | some _, none => s
     | none, some _ => s
     | none, none => s)

end Sys2Proof.Machine
end

