-- ==== Sys2Proof/Machine/Windows.lean ====
section
/-! DEFINITION. The window commands: OPEN WINDOW, RETIRE WINDOW, RENEW, STAGE LIMIT and SWAP BANKS
(chapters 1, 4 and 5).
-/

namespace Sys2Proof.Machine

/-- The arguments of an OPEN WINDOW that are in range (R12). -/
structure OpenRequest where
  cls : WindowClass
  unit : Nat
  length0 : Nat
  length1 : Option Nat
  lifetime : Option Nat
  binding : Option Binding
  deriving DecidableEq, Repr

/-- A bank length in range: 1 to 65536 bytes and a multiple of the unit (R13 check 3). -/
def lengthInRange (length unit : Nat) : Bool :=
  decide (1 ≤ length) && decide (length ≤ 65536) && decide (unit ∣ length)

/-- The binding asked: none, or a BINDABLE line with an action; the action is disregarded where no line
is asked (12.1, R13 check 3). -/
def parseBinding (x : Policy) (line action : Byte) : Except ResultCode (Option Binding) :=
  if line = 0xFF#8 then .ok none
  else do
    require (decide (line.toNat < 8)) .badArg
    let act ← found (BindingAction.ofByte? action) .badArg
    require (decide ((x.line line.toNat).role = .bindable)) .badArg
    return some ⟨line.toNat, act⟩

/-- The bank 1 length asked: of a two-bank window alone (R12). -/
def parseLength1 (bankCount : Byte) (length unit : Nat) : Except ResultCode (Option Nat) :=
  if bankCount = 1#8 then .ok none
  else if bankCount = 2#8 then do
    require (lengthInRange length unit) .badArg
    return some length
  else .error .badArg

/-- Check 3 of OPEN WINDOW (R13): every argument in range. -/
def parseOpen (x : Policy) (a : OpenParams) : Except ResultCode OpenRequest := do
  let cls ← found (WindowClass.ofByte? a.cls) .badArg
  let unit ← found (unitOfByte? a.unit) .badArg
  require (lengthInRange a.length0.toNat unit) .badArg
  let length1 ← parseLength1 a.bankCount a.length1.toNat unit
  let binding ← parseBinding x a.line a.action
  require (!(decide (binding.map Binding.action = some .swap) && length1.isNone)) .badArg
  return {
    cls := cls, unit := unit, length0 := a.length0.toNat, length1 := length1
    lifetime := if a.lifetime = 0#16 then none else some a.lifetime.toNat
    binding := binding }

/-- The FREE Window Table entry with the lowest index (R1). -/
def State.freeWindow (s : State) : Option Nat :=
  ((List.range Config.windowTotal).map (· + 1)).find? fun i => (s.window? i).isNone

/-- A window about to be opened: its index, its root selector and the first pages of its banks. -/
structure OpenTicket where
  owner : Holder
  request : OpenRequest
  selector : Nat
  index : Nat
  first0 : Nat
  first1 : Option Nat
  deriving DecidableEq, Repr

/-- The pages asked of all banks (R13 check 9). -/
def OpenRequest.pages (r : OpenRequest) : Nat :=
  pagesOf r.length0 + ((r.length1.map pagesOf).getD 0)

/-- The checks of OPEN WINDOW (R13), in their order. -/
def checkOpenWindow (i : PortId) (a : OpenParams) (s : State) : Except ResultCode OpenTicket := do
  let h := s.caller i
  require (decide (s.policy.phase = .running)) .notReady
  require (s.active h) .holderClosed
  let r ← parseOpen s.policy a
  require (!(decide (r.cls = .guarded) && h.isA)) .classRefused
  require (!(decide (r.cls = .guarded) && s.dir.tamper)) .tampered
  let n ← found (s.freeSelector h) .noSelector
  let w ← found s.freeWindow .noWindow
  require (decide ((s.counter h).windows < (s.policy.quota h).windows)) .quota
  require (decide ((s.counter h).pages + r.pages ≤ (s.policy.quota h).pages)) .quota
  let place ← found (s.place h (pagesOf r.length0) (r.length1.map pagesOf)) .noSpace
  return ⟨h, r, n, w, place.1, place.2⟩

/-- The new Window Table entry (R16). -/
def OpenTicket.window (t : OpenTicket) : Window where
  state := .live
  owner := t.owner
  cls := t.request.cls
  unit := t.request.unit
  bank0 := ⟨t.first0, pagesOf t.request.length0, t.request.length0⟩
  bank1 := t.request.length1.bind fun n => t.first1.map fun f => ⟨f, pagesOf n, n⟩
  live := .zero
  swapPending := none
  inFlight := 0
  pinned := false
  lifetime := t.request.lifetime
  binding := t.request.binding
  damaged := false
  cause := none

/-- The new root view (R16). -/
def OpenTicket.root (t : OpenTicket) : View :=
  ⟨t.index, t.window.rootRights, true, none, 0⟩

/-- The pages of a bank of the new window marked ALLOCATED (R108 step 3). -/
def allocateBank (pages : Table PageState) (w : Nat) (n : BankNo) (b : Option Bank) :
    Table PageState :=
  match b with
  | some b => allocateRun pages w n b.firstPage b.pageCount
  | none => pages

/-- The window opened (R15, R16, R108): pages placed and charged, entry filled, root created. -/
def State.openWindow (s : State) (t : OpenTicket) : State :=
  let c := s.counter t.owner
  let charged := s.setCounter t.owner ⟨c.windows + 1, c.pages + t.request.pages⟩
  let w := t.window
  let placed : State :=
    { charged with
      alloc.pages :=
        allocateBank (allocateBank s.alloc.pages t.index .zero (some w.bank0)) t.index .one w.bank1 }
  (placed.putWindow t.index w).putView ⟨t.owner, t.selector⟩ t.root

/-- OPEN WINDOW (R13, R15, R16): the answer is the root selector. -/
def execOpenWindow (i : PortId) (a : OpenParams) (s : State) : Result :=
  .next (s.onIdle i (s.checked i (checkOpenWindow i a s) fun t =>
    (s.openWindow t).answer i .ok [byteOf t.selector]))

/-- The checks that RETIRE WINDOW and RENEW share (R18, R82): through the window's root view or a view
held by P, NOT_OWNER before the window's state is looked at. -/
def checkOwner (i : PortId) (selector : Byte) (s : State) : Except ResultCode (View × Window) := do
  let h := s.caller i
  let v ← s.callerView h selector
  require (v.root || decide (h = .payment)) .notOwner
  let w ← s.liveWindow v.window
  return (v, w)

/-- The state that retirement reaches in the event that begins it (R82). -/
def Window.retiresTo (w : Window) : WindowState := if w.quiet then .queued else .draining

/-- RETIRE WINDOW (R82): retirement begins with cause OWNER through the root and FORCED through any
other view of P; the answer is the state reached. -/
def execRetireWindow (i : PortId) (selector : Byte) (s : State) : Result :=
  .next (s.onIdle i (s.checked i (checkOwner i selector s) fun x =>
    (s.beginRetirement x.1.window (if x.1.root then .owner else .forced)).answer i .ok
      [x.2.retiresTo.toByte]))

/-- RENEW (R18): the lifetime is replaced, or removed by 0. -/
def execRenew (i : PortId) (selector : Byte) (ticks : BitVec 16) (s : State) : Result :=
  .next (s.onIdle i (s.checked i (checkOwner i selector s) fun x =>
    (s.putWindow x.1.window
      { x.2 with lifetime := if ticks = 0#16 then none else some ticks.toNat }).reply i .ok))

/-- The checks that STAGE LIMIT and SWAP BANKS share (R69, R74, checks 1 to 6): the index, the window
and its shadow bank. -/
def checkSwapper (i : PortId) (selector : Byte) (s : State) :
    Except ResultCode (Nat × Window × Bank) := do
  let v ← s.callerView (s.caller i) selector
  let w ← s.liveWindow v.window
  require v.rights.swap .rights
  let n ← found (w.resolve .shadow) .badArg
  let b ← found (w.bank? n) .badArg
  return (v.window, w, b)

/-- The checks of STAGE LIMIT (R74). -/
def checkStageLimit (i : PortId) (selector : Byte) (limit : BitVec 24) (s : State) :
    Except ResultCode (Nat × Window × Bank) := do
  let x ← checkSwapper i selector s
  require (decide (x.2.1.unit ∣ limit.toNat) && decide (x.2.1.unit ≤ limit.toNat)
    && decide (limit.toNat ≤ x.2.2.pageCount * 256)) .badArg
  require x.2.1.quiet .windowBusy
  return x

/-- STAGE LIMIT (R74): the limit of the shadow bank is replaced. -/
def execStageLimit (i : PortId) (selector : Byte) (limit : BitVec 24) (s : State) : Result :=
  .next (s.onIdle i (s.checked i (checkStageLimit i selector limit s) fun x =>
    (s.putWindow x.1
      (x.2.1.setBank x.2.1.live.other { x.2.2 with limit := limit.toNat })).reply i .ok))

/-- SWAP BANKS (R68, R69): an exchange request with source HOLDER; the answer is EXCHANGED or
PENDING. -/
def execSwapBanks (i : PortId) (selector : Byte) (s : State) : Result :=
  .next (s.onIdle i (s.checked i (checkSwapper i selector s) fun x =>
    (s.requestExchange x.1 x.2.1 .holder).answer i .ok
      [if x.2.1.quiet then 0x00#8 else 0x01#8]))

end Sys2Proof.Machine
end

