-- ==== Sys2Proof/Machine/Dispatch.lean ====
section
/-! DEFINITION. One arm per command or event: each is one call of its meaning.
-/

namespace Sys2Proof.Machine

/-- What a command or event does to everything but the queue of those that wait. -/
def exec (i : Instr) (s : State) : Host.Outcome State Fault Refusal :=
  match i with
  | .readStatus port => Sys2Proof.Machine.execReadStatus port s
  | .readNotice port => Sys2Proof.Machine.execReadNotice port s
  | .portReset port => Sys2Proof.Machine.execPortReset port s
  | .loadStaging port column count payload => Sys2Proof.Machine.execLoadStaging port column count payload s
  | .readStaging port column count => Sys2Proof.Machine.execReadStaging port column count s
  | .clearStaging port => Sys2Proof.Machine.execClearStaging port s
  | .put port params => Sys2Proof.Machine.execPut port params s
  | .fetch port params => Sys2Proof.Machine.execFetch port params s
  | .move port params => Sys2Proof.Machine.execMove port params s
  | .openWindow port params => Sys2Proof.Machine.execOpenWindow port params s
  | .grantView port selector target rights => Sys2Proof.Machine.execGrantView port selector target rights s
  | .narrowView port selector target targetSelector rights => Sys2Proof.Machine.execNarrowView port selector target targetSelector rights s
  | .dropView port selector => Sys2Proof.Machine.execDropView port selector s
  | .describeView port selector => Sys2Proof.Machine.execDescribeView port selector s
  | .retireWindow port selector => Sys2Proof.Machine.execRetireWindow port selector s
  | .renew port selector ticks => Sys2Proof.Machine.execRenew port selector ticks s
  | .stageLimit port selector limit => Sys2Proof.Machine.execStageLimit port selector limit s
  | .swapBanks port selector => Sys2Proof.Machine.execSwapBanks port selector s
  | .selectApp port slot => Sys2Proof.Machine.execSelectApp port slot s
  | .openSlot port slot => Sys2Proof.Machine.execOpenSlot port slot s
  | .closeSlot port slot => Sys2Proof.Machine.execCloseSlot port slot s
  | .setPools port nReserve pReserve => Sys2Proof.Machine.execSetPools port nReserve pReserve s
  | .setQuota port cls windows pages => Sys2Proof.Machine.execSetQuota port cls windows pages s
  | .setLine port line role mode => Sys2Proof.Machine.execSetLine port line role mode s
  | .lockPolicy port => Sys2Proof.Machine.execLockPolicy port s
  | .clearTamper port => Sys2Proof.Machine.execClearTamper port s
  | .frameRejected port bytes => Sys2Proof.Machine.execFrameRejected port bytes s
  | .frameDiscarded port bytes => Sys2Proof.Machine.execFrameDiscarded port bytes s
  | .deviceReset levels flips => Sys2Proof.Machine.execDeviceReset levels flips s
  | .startupScrubGrant => Sys2Proof.Machine.execStartupScrubGrant s
  | .startupPageRelease => Sys2Proof.Machine.execStartupPageRelease s
  | .scrubEnd => Sys2Proof.Machine.execScrubEnd s
  | .putGrant port flips => Sys2Proof.Machine.execPutGrant port flips s
  | .fetchGrant port flips => Sys2Proof.Machine.execFetchGrant port flips s
  | .transferCompletion port => Sys2Proof.Machine.execTransferCompletion port s
  | .moveTakeHead => Sys2Proof.Machine.execMoveTakeHead s
  | .startCheck => Sys2Proof.Machine.execStartCheck s
  | .fillPatternRead flips => Sys2Proof.Machine.execFillPatternRead flips s
  | .chunkCheck => Sys2Proof.Machine.execChunkCheck s
  | .moveChunkGrant flips => Sys2Proof.Machine.execMoveChunkGrant flips s
  | .moveEnd => Sys2Proof.Machine.execMoveEnd s
  | .retireTakeHead => Sys2Proof.Machine.execRetireTakeHead s
  | .sweep => Sys2Proof.Machine.execSweep s
  | .pageScrubGrant => Sys2Proof.Machine.execPageScrubGrant s
  | .pageRelease => Sys2Proof.Machine.execPageRelease s
  | .windowFreeing => Sys2Proof.Machine.execWindowFreeing s
  | .lineEdge line level => Sys2Proof.Machine.execLineEdge line level s
  | .lineEvent line => Sys2Proof.Machine.execLineEvent line s
  | .tamperLineEvent line => Sys2Proof.Machine.execTamperLineEvent line s
  | .tickEmit => Sys2Proof.Machine.execTickEmit s
  | .tick => Sys2Proof.Machine.execTick s
  | .lifetimeExpiry window => Sys2Proof.Machine.execLifetimeExpiry window s

end Sys2Proof.Machine
end

