-- ==== Sys2Proof/Machine/Step.lean ====
section
/-! DEFINITION. One step: the command or event at the front of the queue acts on the part with the
rest of the queue waiting; on an empty queue the part idles (assumption 2).
-/

namespace Sys2Proof.Machine

/-- One step. -/
def step (s : State) : Host.Outcome State Fault Refusal :=
  match s.pending with
  | [] => .next s
  | i :: rest => exec i { s with pending := rest }

/-- The part with a command put at the front of its queue. -/
def State.withFront (s : State) (i : Instr) : State := { s with pending := i :: s.pending }

/-- The part with the command that a word spells put at the front of its queue; unchanged where the
word spells none, as every word does (no row of the table gives bits). -/
def State.withFetchWord (s : State) (nbits w : Nat) : State :=
  match decodeTableWord nbits w with
  | none => s
  | some i => s.withFront i

end Sys2Proof.Machine
end

