-- ==== Sys2Proof/Safety.lean ====
section
/-! DEFINITION. What every step keeps: the invariants of the part that the statements name. Each is
read from a rule of the manual that says what holds at every moment.
-/

namespace Sys2Proof.Machine

/-! ### Queues and memory -/

/-- No notice queue holds more than its places (R163), and the Move Queue holds at most 8 requests and
at most 4 of one port (R117). -/
def QueuesBounded (s : State) : Prop :=
  (∀ i, (s.port i).notices.length ≤ noticeCapacity i)
    ∧ s.move.queue.length ≤ Config.moveQueueTotal
    ∧ ∀ i, requestsOf i s.move.queue ≤ Config.moveQueuePerPort

/-- Exchange memory is in its canonical form and holds addresses 0 to 524,287 and words 0 to 65,535
alone (R99). -/
def MemoryCanonical (s : State) : Prop := s.xm.wf = true

/-- Every sparse table of the part is in its canonical form, so that equal tables are equal data. -/
def TablesCanonical (s : State) : Prop :=
  Table.rising s.dir.windows = true ∧ Table.rising s.dir.views = true
    ∧ Table.wf .closed s.dir.slots = true ∧ Table.wf .scrubbing s.alloc.pages = true
    ∧ Table.wf ⟨0, 0⟩ s.alloc.counters = true ∧ Table.wf 0#8 s.move.pattern = true
    ∧ Table.wf false s.events.levels = true ∧ Table.wf LineConfig.initial s.policy.lines = true
    ∧ ∀ i, Table.wf 0#8 (s.port i).staging = true

/-! ### The tamper latch -/

/-- No GUARDED window is LIVE while the latch is set (R14). -/
def LatchShut (s : State) : Prop :=
  s.dir.tamper = true → ∀ k w, s.window? k = some w → w.isLiveGuarded = false

/-! ### The device phase and the counters -/

/-- The current-window record, which the engine keeps while it clears a window (R86). -/
def RetireState.record : RetireState → Option RetireRecord
  | .sweeping r => some r
  | .scrubbing r _ => some r
  | .freeing r => some r
  | .startUp _ _ => none
  | .idle => none

/-- The engine is in START-UP (R86). -/
def RetireState.isStartUp : RetireState → Bool
  | .startUp _ _ => true
  | .idle => false
  | .sweeping _ => false
  | .scrubbing _ _ => false
  | .freeing _ => false

/-- A port is NOT_READY exactly while the phase is STARTING (R160), when it has no transfer, and the
start-up scrub or its report is under way only in STARTING (R170). -/
def PhaseCoherent (s : State) : Prop :=
  (∀ i, (s.port i).state = .notReady ↔ s.policy.phase = .starting)
    ∧ (s.policy.phase = .starting → ∀ i, (s.port i).transfer = none)
    ∧ (s.retire.state.isStartUp = true → s.policy.phase = .starting ∧ s.retire.endReport = false)
    ∧ (s.retire.endReport = true → s.policy.phase = .starting)

/-- The window count of a holder is the number of windows it owns that are not FREE (R110), and the
record of the Retire Engine names the owner of its window (R87). -/
def CountersHeld (s : State) : Prop :=
  (∀ h, (s.counter h).windows = (s.dir.windows.filter fun e => decide (e.2.owner = h)).length)
    ∧ ∀ r, s.retire.state.record = some r → (s.window? r.window).map Window.owner = some r.owner

/-- Before RUNNING no window stands against a holder and no page is charged; at every moment no
counter is above its limit (R112). -/
def QuotasRespected (s : State) : Prop :=
  (s.policy.phase ≠ .running → ∀ h, s.counter h = ⟨0, 0⟩)
    ∧ ∀ h, (s.counter h).windows ≤ (s.policy.quota h).windows
        ∧ (s.counter h).pages ≤ (s.policy.quota h).pages

/-! ### Views -/

/-- A selector is in its holder's range (R22). -/
def ViewId.inRange (v : ViewId) : Prop := 1 ≤ v.selector ∧ v.selector ≤ v.holder.selectorRange

/-- The shape of the grant trees (R22, R23, R25): the View Table has one entry for a place, every place
in its holder's range; a root has no parent and depth 0; any other view has a VALID parent of the same
window that carries its rights and stands one level above, and depth at most 3. No view is without
rights. -/
def GrantTrees (s : State) : Prop :=
  Table.rising s.dir.views = true
    ∧ (∀ e ∈ s.dir.views, ∃ v : ViewId, v.inRange ∧ v.key = e.1)
    ∧ ∀ v x, v.inRange → s.view? v = some x →
      x.rights.isEmpty = false
        ∧ (x.root = true → x.parent = none ∧ x.depth = 0)
        ∧ (x.root = false → ∃ p q, x.parent = some p ∧ p.inRange ∧ s.view? p = some q
            ∧ q.window = x.window ∧ x.rights.subset q.rights = true ∧ x.depth = q.depth + 1
            ∧ x.depth ≤ 3)

/-- A root is held by its window's owner (R25), and a LIVE window has exactly one root view, which is
VALID (R26). -/
def RootsHeld (s : State) : Prop :=
  (∀ v x, v.inRange → s.view? v = some x → x.root = true →
      (s.window? x.window).map Window.owner = some v.holder)
    ∧ ∀ k w, s.window? k = some w → w.isLive = true →
        ∃! v : ViewId, v.inRange ∧ ∃ x, s.view? v = some x ∧ x.window = k ∧ x.root = true

/-- The window that the Retire Engine is clearing, with whether its views have been swept (R86). -/
def RetireState.clearing : RetireState → Option (Nat × Bool)
  | .sweeping r => some (r.window, false)
  | .scrubbing r _ => some (r.window, true)
  | .freeing r => some (r.window, true)
  | .startUp _ _ => none
  | .idle => none

/-- Every VALID view names a window that is not FREE, none held by an A-holder names a GUARDED one
(R28), and no holder holds two views of one window (R27); the window being cleared is CLEARING, and no
view names it after its sweep (R88). -/
def ViewsAnchored (s : State) : Prop :=
  (∀ v x, v.inRange → s.view? v = some x →
      ∃ w, s.window? x.window = some w ∧ (v.holder.isA = true → w.cls ≠ .guarded))
    ∧ (∀ v u x y, v.inRange → u.inRange → v.holder = u.holder → s.view? v = some x →
        s.view? u = some y → x.window = y.window → v = u)
    ∧ ∀ k swept, s.retire.state.clearing = some (k, swept) →
        (∃ w, s.window? k = some w ∧ w.state = .clearing)
          ∧ (swept = true → ∀ v x, v.inRange → s.view? v = some x → x.window ≠ k)

/-! ### Work in flight -/

/-- How many ports hold an admitted transfer on a window (R50). -/
def State.transfersOn (s : State) (k : Nat) : Nat :=
  (([PortId.pPort, .nPort, .aPort].filterMap fun i => (s.port i).transfer).filter fun t =>
    decide (t.window = k)).length

/-- The resolved record of the running move names a window (R7). -/
def State.moveNames (s : State) (k : Nat) : Bool :=
  match s.move.queue.head?.bind MoveRequest.resolved with
  | some x => decide (x.srcWindow = k) || decide (x.dstWindow = k)
  | none => false

/-- The port states and the transfers they stand for (R160). -/
def PortsCoherent (s : State) : Prop :=
  ∀ i, ((s.port i).transfer.isSome = true
        ↔ (s.port i).state = .executing ∨ (s.port i).state = .resetting)
      ∧ ((s.port i).completion.isSome = true → (s.port i).transfer.isSome = true)

/-- The Move Queue and the engine (R117, R120, R121): the head runs exactly while the engine is not IDLE,
no other request runs, a resolved request runs, no request has done more than its count, and one that
does not run has done nothing; at the start check the head is not resolved, and neither progress nor
corrected words stand against it, so that a start failure carries 0 and 0 (R127). -/
def MovesCoherent (s : State) : Prop :=
  (s.move.state ≠ .idle ↔ ∃ r rest, s.move.queue = r :: rest ∧ r.running = true)
    ∧ (∀ r ∈ s.move.queue.tail, r.running = false)
    ∧ (s.move.state = .startCheck → ∀ r, s.move.queue.head? = some r →
        r.resolved = none ∧ r.progress = 0 ∧ s.move.corrected = 0)
    ∧ ∀ r ∈ s.move.queue, (r.resolved.isSome = true → r.running = true) ∧ r.progress ≤ r.count
        ∧ (r.running = false → r.progress = 0)

/-- The in-flight count counts the transfers on the window, the pin is the running move's, and a
window on the Retire Queue or being cleared is quiet (R7, R50, R85). -/
def WorkCounted (s : State) : Prop :=
  ∀ k w, s.window? k = some w →
    w.inFlight = s.transfersOn k ∧ w.pinned = s.moveNames k
      ∧ (w.state = .queued ∨ w.state = .clearing → w.quiet = true)

/-- The Retire Queue holds QUEUED windows, each once (R85), and the window being cleared is CLEARING
(R87). -/
def RetireCoherent (s : State) : Prop :=
  (∀ k ∈ s.retire.queue, ∃ w, s.window? k = some w ∧ w.state = .queued)
    ∧ s.retire.queue.Nodup
    ∧ ∀ k swept, s.retire.state.clearing = some (k, swept) →
        ∃ w, s.window? k = some w ∧ w.state = .clearing

/-- The bank of a window holds a range of offsets (R51, R103). -/
def State.bankHolds (s : State) (k : Nat) (n : BankNo) (offset count : Nat) : Prop :=
  ∃ w b, s.window? k = some w ∧ w.bank? n = some b ∧ offset + count ≤ b.pageCount * 256

/-- The reserves are of the sizes that the manual allows (R105), every bank lies in exchange memory with
its limit inside it (R103), every admitted transfer and every range of the running move lies in the bank
it was resolved to (R51, R122), and the page that is scrubbed is a page of the window being cleared (R89)
or of exchange memory (R170). -/
def RangesHeld (s : State) : Prop :=
  (s.policy.nReserve ∈ [0, 128, 256, 512] ∧ s.policy.pReserve ∈ [0, 128, 256, 512, 1024])
    ∧ (∀ k w n b, s.window? k = some w → w.bank? n = some b →
      b.firstPage + b.pageCount ≤ Config.pageTotal ∧ b.limit ≤ b.pageCount * 256
        ∧ 1 ≤ b.pageCount)
    ∧ (∀ i t, (s.port i).transfer = some t → s.bankHolds t.window t.bank t.offset t.count)
    ∧ (∀ r x, s.move.queue.head? = some r → r.resolved = some x →
        s.bankHolds x.srcWindow x.srcBank r.srcOffset (r.mode.sourceSpan r.count)
          ∧ s.bankHolds x.dstWindow x.dstBank r.dstOffset r.count)
    ∧ (∀ r stage, s.retire.state = .scrubbing r stage →
        ∃ w b, s.window? r.window = some w ∧ w.bank? r.bank = some b
          ∧ b.firstPage ≤ r.page ∧ r.page < b.firstPage + b.pageCount)
    ∧ (∀ r, s.retire.state = .sweeping r →
        ∃ w, s.window? r.window = some w ∧ r.bank = .zero ∧ r.page = w.bank0.firstPage)
    ∧ ∀ page stage, s.retire.state = .startUp page stage → page < Config.pageTotal

/-- A two-bank window alone has swap pending or a SWAP binding, and swap is pending only while it is LIVE
and not quiet; the retire cause is absent exactly while it is LIVE; a one-bank window's live bank is
0; a lifetime that is present is not 0 (R6, R10, R17, R19, R67). -/
def WindowsCoherent (s : State) : Prop :=
  ∀ k w, s.window? k = some w →
    (w.swapPending.isSome = true →
        w.state = .live ∧ w.bank1.isSome = true ∧ w.quiet = false)
      ∧ (w.binding.map Binding.action = some .swap → w.bank1.isSome = true)
      ∧ (w.cause = none ↔ w.state = .live)
      ∧ (w.bank1 = none → w.live = .zero)
      ∧ w.lifetime ≠ some 0

/-- The work of the part is accounted for: everything above that one block's state says of another's. -/
def WorkAccounted (s : State) : Prop :=
  PhaseCoherent s ∧ PortsCoherent s ∧ MovesCoherent s ∧ WorkCounted s ∧ RetireCoherent s
    ∧ RangesHeld s

/-! ### Pages -/

/-- A page of a bank is not yet taken by the scrub of its window, which takes bank 0 and then bank 1,
each in ascending order (R89, R103). -/
def State.stillHeld (s : State) (k : Nat) (n : BankNo) (p : Nat) : Prop :=
  match s.retire.state with
  | .scrubbing r _ => r.window = k → (n = r.bank ∧ r.page < p) ∨ (r.bank = .zero ∧ n = .one)
  | .freeing r => r.window ≠ k
  | .startUp _ _ => True
  | .idle => True
  | .sweeping _ => True

/-- Every byte of a page was last written as zero with fresh check bits (R104): a stored data bit is set
exactly where nature has turned it over since, so that the page reads as zeros with clean words wherever
nothing is disturbed. -/
def Memory.writtenZero (m : Memory) (page : Nat) : Prop :=
  ∀ a j, a / 256 = page → j < 8 →
    (m.byte a).getLsbD j = decide (8 * (a % 8) + j ∈ m.disturbed (a / 8))

/-- The page map and the bank records agree (R102, R103): a page is ALLOCATED to a bank exactly where it
lies in the run that the bank's record names and the scrub has not taken it yet, so that no page is in
two banks. A FREE page was last written by a scrub of itself (R104); the page being scrubbed is
SCRUBBING, as is every page that the start-up scrub has not released (R170), and once scrubbed it holds
zeros. -/
def PagesHeld (s : State) : Prop :=
  (∀ p k n, s.page p = .allocated k n ↔
      ∃ w b, s.window? k = some w ∧ w.bank? n = some b
        ∧ b.firstPage ≤ p ∧ p < b.firstPage + b.pageCount ∧ s.stillHeld k n p)
    ∧ (∀ p, s.page p = .free → s.xm.writtenZero p)
    ∧ (∀ r stage, s.retire.state = .scrubbing r stage →
        s.page r.page = .scrubbing ∧ (stage = .scrubbed → s.xm.writtenZero r.page))
    ∧ ∀ page stage, s.retire.state = .startUp page stage →
        (∀ p, page ≤ p → s.page p = .scrubbing) ∧ (stage = .scrubbed → s.xm.writtenZero page)

/-! ### The guarded mark -/

/-- The A-port's guarded mark is never set, and no transfer of the A-port is on a GUARDED window
(R54). -/
def ApplicationUnmarked (s : State) : Prop :=
  s.ports.a.mark = false
    ∧ ∀ t, s.ports.a.transfer = some t → ∀ w, s.window? t.window = some w → w.cls ≠ .guarded

end Sys2Proof.Machine
end

