-- ==== Sys2Proof/Rules.lean ====
section
/-! DEFINITION. The vocabulary of the statements: one piece of the part's state at a time, what leaves
everything else unchanged, and the manual's lists of checks and of effects written as they stand there,
each condition and each effect on its own.

Nothing here is run by a step.
-/

namespace Sys2Proof.Machine

/-! ### Frames -/

/-- One piece of the part's state. A view is named by its key in the View Table (`ViewId.key`). -/
inductive Place where
  | pending
  | portState (i : PortId)
  | stagingColumn (i : PortId) (column : Nat)
  | guardedMark (i : PortId)
  | lastResult (i : PortId)
  | notices (i : PortId)
  | noticesLost (i : PortId)
  | transfer (i : PortId)
  | completion (i : PortId)
  | response (i : PortId)
  | actingSlot
  | window (index : Nat)
  | view (key : Nat)
  | slot (n : Nat)
  | tamperLatch
  | page (p : Nat)
  | counter (h : Holder)
  | memoryByte (a : Nat)
  | memoryWord (k : Nat)
  | lastGranted
  | moveQueue
  | moveState
  | moveCorrected
  | patternByte (n : Nat)
  | retireQueue
  | retireState
  | endReport
  | lineLevel (n : Nat)
  | lineEvents
  | divider
  | ticks
  | phase
  | reserves
  | quota (h : Holder)
  | line (n : Nat)
  deriving DecidableEq, Repr

/-- One column of a port's staging buffer (R43). -/
def State.column (s : State) (i : PortId) (c : Nat) : Byte := Table.value 0#8 (s.port i).staging c

/-- A piece of state is the same in two states. A memory word's disturbed bits stand for its check
bits. -/
def Place.same (s t : State) : Place → Prop
  | .pending => t.pending = s.pending
  | .portState i => (t.port i).state = (s.port i).state
  | .stagingColumn i c => t.column i c = s.column i c
  | .guardedMark i => (t.port i).mark = (s.port i).mark
  | .lastResult i => (t.port i).last = (s.port i).last
  | .notices i => (t.port i).notices = (s.port i).notices
  | .noticesLost i => (t.port i).lost = (s.port i).lost
  | .transfer i => (t.port i).transfer = (s.port i).transfer
  | .completion i => (t.port i).completion = (s.port i).completion
  | .response i => (t.port i).response = (s.port i).response
  | .actingSlot => t.ports.acting = s.ports.acting
  | .window k => t.window? k = s.window? k
  | .view k => Table.at? t.dir.views k = Table.at? s.dir.views k
  | .slot n => t.slot n = s.slot n
  | .tamperLatch => t.dir.tamper = s.dir.tamper
  | .page p => t.page p = s.page p
  | .counter h => t.counter h = s.counter h
  | .memoryByte a => t.xm.byte a = s.xm.byte a
  | .memoryWord k => t.xm.disturbed k = s.xm.disturbed k
  | .lastGranted => t.lastGranted = s.lastGranted
  | .moveQueue => t.move.queue = s.move.queue
  | .moveState => t.move.state = s.move.state
  | .moveCorrected => t.move.corrected = s.move.corrected
  | .patternByte n => Table.value 0#8 t.move.pattern n = Table.value 0#8 s.move.pattern n
  | .retireQueue => t.retire.queue = s.retire.queue
  | .retireState => t.retire.state = s.retire.state
  | .endReport => t.retire.endReport = s.retire.endReport
  | .lineLevel n => t.events.level n = s.events.level n
  | .lineEvents => t.events.lineEvents = s.events.lineEvents
  | .divider => t.events.divider = s.events.divider
  | .ticks => t.events.ticks = s.events.ticks
  | .phase => t.policy.phase = s.policy.phase
  | .reserves => t.policy.nReserve = s.policy.nReserve ∧ t.policy.pReserve = s.policy.pReserve
  | .quota h => t.policy.quota h = s.policy.quota h
  | .line n => t.policy.line n = s.policy.line n

/-- Every piece of state but those named is unchanged. -/
def UnchangedBut (changed : Place → Prop) (s t : State) : Prop :=
  ∀ x, ¬changed x → x.same s t

/-- A place of exchange memory: a stored byte or a word's disturbed bits. -/
def Place.inMemory : Place → Prop
  | .memoryByte _ => True
  | .memoryWord _ => True
  | _ => False

/-- A notice queue or a notices-lost flag. -/
def Place.isNotice : Place → Prop
  | .notices _ => True
  | .noticesLost _ => True
  | _ => False

/-! ### Grants -/

/-- The row is a grant of the requester: of a port a PUT or a FETCH, of the Move Engine a fill-pattern
read or a chunk, of the Retire Engine a page scrub, in START-UP or in SCRUBBING (R113). -/
def Requester.grantedBy (c : Instr) : Requester → Prop
  | .port i => ∃ flips, c = .putGrant i flips ∨ c = .fetchGrant i flips
  | .moveEngine => ∃ flips, c = .fillPatternRead flips ∨ c = .moveChunkGrant flips
  | .retireEngine => c = .pageScrubGrant ∨ c = .startupScrubGrant

/-! ### Answers -/

/-- The port's latest response is this result with these detail bytes. -/
def State.answered (t : State) (i : PortId) (code : ResultCode) (detail : List Byte) : Prop :=
  (t.port i).response = some ⟨code, detail⟩

/-- The command runs, answers the code without detail, and changes nothing else. -/
def Refused (c : Instr) (s : State) (i : PortId) (code : ResultCode) : Prop :=
  ∃ t, exec c s = .next t ∧ t.answered i code [] ∧ UnchangedBut (· = .response i) s t

/-- The code of the first check of a list that fails; each entry says whether the check fails. -/
def firstFailure (checks : List (Bool × ResultCode)) : Option ResultCode :=
  (checks.find? Prod.fst).map Prod.snd

/-- The command passes the port's judgement, R158 steps 2 and 3: its code is known to the port and its
length is the one that the command requires. -/
def PassesFrame (c : Instr) (i : PortId) : Prop :=
  ∃ code body, c.request = some (i, code, body) ∧ Frame.commandOf i code.toNat body = .taken c

/-! ### Notices -/

/-- The notices of a port after some are posted in order (R163). -/
def State.noticesAfter (s : State) (posted : List Notice) (i : PortId) : List Notice :=
  ((posted.foldl Ports.post s.ports).get i).notices

/-- The notices-lost flag of a port after some notices are posted in order (R163). -/
def State.lostAfter (s : State) (posted : List Notice) (i : PortId) : Bool :=
  ((posted.foldl Ports.post s.ports).get i).lost

/-- The step posted these notices in this order, and no others. -/
def Posted (s t : State) (posted : List Notice) : Prop :=
  ∀ i, (t.port i).notices = s.noticesAfter posted i ∧ (t.port i).lost = s.lostAfter posted i

/-! ### Lookups -/

/-- The caller's view at a selector. -/
def State.viewAt (s : State) (h : Holder) (selector : Byte) : Option View :=
  s.view? ⟨h, selector.toNat⟩

/-- The window behind a view. -/
def State.behind (s : State) (v : Option View) : Option Window := v.bind fun v => s.window? v.window

/-- There is no such view, or its window is not LIVE (R9). -/
def notLive (w : Option Window) : Bool := !(w.any Window.isLive)

/-- The bank, with its number, that a bank parameter addresses: 00h the live bank, 01h the other bank
of a two-bank window (R6, R64). -/
def Window.addressed (w : Window) (bank : Byte) : Option (BankNo × Bank) :=
  if bank = 0x00#8 then (w.bank? w.live).map fun b => (w.live, b)
  else if bank = 0x01#8 ∧ w.bank1.isSome = true then
    (w.bank? w.live.other).map fun b => (w.live.other, b)
  else none

/-- The word of a bank parameter that is in range. -/
def bankWord (bank : Byte) : BankName := if bank = 0x00#8 then .live else .shadow

/-! ### Checks, as the manual lists them -/

/-- The four checks that open the list of every command through a view. -/
def viewChecks (s : State) (h : Holder) (selector : Byte) : List (Bool × ResultCode) :=
  [(!s.active h, .holderClosed),
   (decide (selector = 0#8), .nullSelector),
   (decide (h.selectorRange < selector.toNat), .badArg),
   ((s.viewAt h selector).isNone, .stale)]

/-- The checks of PUT and FETCH (R48). -/
def transferChecks (kind : TransferKind) (i : PortId) (a : TransferParams) (s : State) :
    List (Bool × ResultCode) :=
  let v := s.viewAt (s.caller i) a.selector
  let w := s.behind v
  let bank := w.bind fun w => w.addressed a.bank
  viewChecks s (s.caller i) a.selector ++
  [(notLive w, .stale),
   (!(v.any fun v => v.rights.permits kind)
      || (decide (a.bank = 0x01#8) && (w.any fun w => w.bank1.isSome)
            && !(v.any fun v => v.rights.swap)), .rights),
   (bank.isNone || decide (a.count.toNat = 0) || decide (512 < a.column.toNat + a.count.toNat),
      .badArg),
   (!(w.any fun w => decide (w.unit ∣ a.offset.toNat ∧ w.unit ∣ a.count.toNat)), .align),
   (!(bank.any fun b => decide (a.offset.toNat + a.count.toNat ≤ b.2.limit)), .limit),
   (w.any fun w => w.swapPending.isSome, .windowBusy),
   (decide (kind = .put) && (s.port i).mark && (w.any fun w => decide (w.cls = .common)),
      .classRefused)]

/-- The source span of a move: the fill unit in FILL, the count otherwise (R118 check 8). -/
def moveSpan (a : MoveParams) : Nat :=
  if a.mode = 0x01#8 then a.fillUnit.toNat else a.count.toNat

/-- The checks of MOVE at its taking (R118). -/
def moveChecks (i : PortId) (a : MoveParams) (s : State) : List (Bool × ResultCode) :=
  let h := s.caller i
  let sv := s.viewAt h a.srcSelector
  let dv := s.viewAt h a.dstSelector
  let sw := s.behind sv
  let dw := s.behind dv
  let srcBank := sw.bind fun w => w.addressed a.srcBank
  let dstBank := dw.bind fun w => w.addressed a.dstBank
  let fill := decide (a.mode = 0x01#8)
  [(!s.active h, .holderClosed),
   (decide (a.srcSelector = 0#8) || decide (a.dstSelector = 0#8), .nullSelector),
   (decide (h.selectorRange < a.srcSelector.toNat) || decide (h.selectorRange < a.dstSelector.toNat),
      .badArg),
   (notLive sw || notLive dw, .stale),
   (!(sv.any fun v => v.rights.read) || !(dv.any fun v => v.rights.write)
      || (decide (a.srcBank = 0x01#8) && !(sv.any fun v => v.rights.swap))
      || (decide (a.dstBank = 0x01#8) && !(dv.any fun v => v.rights.swap)), .rights),
   (srcBank.isNone || dstBank.isNone || !([0x00#8, 0x01#8, 0x02#8].contains a.mode)
      || (fill && !([1#8, 2#8, 4#8, 8#8].contains a.fillUnit))
      || decide (a.count.toNat = 0) || decide (65536 < a.count.toNat), .badArg),
   (!(sw.any fun w => decide (w.unit ∣ a.srcOffset.toNat ∧ w.unit ∣ moveSpan a))
      || !(dw.any fun w => decide (w.unit ∣ a.dstOffset.toNat ∧ w.unit ∣ a.count.toNat))
      || (fill && !decide (a.fillUnit.toNat ∣ a.count.toNat)), .align),
   (!(srcBank.any fun b => decide (a.srcOffset.toNat + moveSpan a ≤ b.2.limit))
      || !(dstBank.any fun b => decide (a.dstOffset.toNat + a.count.toNat ≤ b.2.limit)), .limit),
   ((sw.any fun w => decide (w.cls = .guarded)) && (dw.any fun w => decide (w.cls = .common)),
      .classRefused),
   (decide (8 ≤ s.move.queue.length)
      || decide (4 ≤ (s.move.queue.filter fun r => decide (r.requester.port = i)).length),
      .queueFull)]

/-- A bank length in use is out of range: 0, above 65536, or not a multiple of the unit. -/
def lengthOutOfRange (length : BitVec 24) (unit : Byte) : Bool :=
  decide (length.toNat = 0) || decide (65536 < length.toNat) || !decide (unit.toNat ∣ length.toNat)

/-- An argument of OPEN WINDOW is out of range (R13 check 3). -/
def openArgsOutOfRange (x : Policy) (a : OpenParams) : Bool :=
  !([0x00#8, 0x01#8].contains a.cls)
    || !([0x01#8, 0x04#8, 0x10#8].contains a.unit)
    || !([0x01#8, 0x02#8].contains a.bankCount)
    || lengthOutOfRange a.length0 a.unit
    || (decide (a.bankCount = 0x02#8) && lengthOutOfRange a.length1 a.unit)
    || (decide (a.line ≠ 0xFF#8)
          && (decide (8 ≤ a.line.toNat) || !([0x00#8, 0x01#8].contains a.action)
                || !decide ((x.line a.line.toNat).role = .bindable)
                || (decide (a.action = 0x01#8) && decide (a.bankCount = 0x01#8))))

/-- The pages of bank 0 of the window asked: bytes divided by 256, rounded up (R5). -/
def openPages0 (a : OpenParams) : Nat := (a.length0.toNat + 255) / 256

/-- The pages of bank 1 of the window asked, `none` for a one-bank window. -/
def openPages1 (a : OpenParams) : Option Nat :=
  if a.bankCount = 0x02#8 then some ((a.length1.toNat + 255) / 256) else none

/-- The checks of OPEN WINDOW (R13). -/
def openChecks (i : PortId) (a : OpenParams) (s : State) : List (Bool × ResultCode) :=
  let h := s.caller i
  [(!decide (s.policy.phase = .running), .notReady),
   (!s.active h, .holderClosed),
   (openArgsOutOfRange s.policy a, .badArg),
   (decide (a.cls = 0x01#8) && h.isA, .classRefused),
   (decide (a.cls = 0x01#8) && s.dir.tamper, .tampered),
   ((List.range h.selectorRange).all fun n => (s.view? ⟨h, n + 1⟩).isSome, .noSelector),
   ((List.range 255).all fun n => (s.window? (n + 1)).isSome, .noWindow),
   (decide ((s.policy.quota h).windows ≤ (s.counter h).windows), .quota),
   (decide ((s.policy.quota h).pages < (s.counter h).pages + openPages0 a + (openPages1 a).getD 0), .quota),
   ((s.place h (openPages0 a) (openPages1 a)).isNone, .noSpace)]

/-- The rights that a rights byte gives, its bits 4 to 7 disregarded (12.1). -/
def rightsOf (b : Byte) : Rights := ⟨b.getLsbD 0, b.getLsbD 1, b.getLsbD 2, b.getLsbD 3⟩

/-- The checks of GRANT VIEW (R29). -/
def grantChecks (i : PortId) (selector target rights : Byte) (s : State) :
    List (Bool × ResultCode) :=
  let v := s.viewAt (s.caller i) selector
  let w := s.behind v
  let t := Holder.ofCode? target.toNat
  viewChecks s (s.caller i) selector ++
  [(notLive w, .stale),
   (!(v.any fun v => v.rights.grant), .rights),
   (decide (rights = 0#8) || decide (16 ≤ rights.toNat)
      || !(v.any fun v => (rightsOf rights).subset v.rights)
      || ((rightsOf rights).swap && !(w.any fun w => w.bank1.isSome)), .badArg),
   (v.any fun v => decide (3 ≤ v.depth), .depth),
   (t.isNone, .badArg),
   (!(t.any s.active), .holderClosed),
   ((w.any fun w => decide (w.cls = .guarded)) && t.any Holder.isA, .classRefused),
   (t.any fun t => (List.range t.selectorRange).any fun n =>
      decide (((s.view? ⟨t, n + 1⟩).map View.window) = v.map View.window), .duplicate),
   (t.any fun t => (List.range t.selectorRange).all fun n => (s.view? ⟨t, n + 1⟩).isSome,
      .noSelector)]

/-- The view of key `anc` is a proper ancestor of that of key `k`: it is reached from it by following
parent fields one or more steps (R32). -/
def ProperAncestor (views : Table View) (anc k : Nat) : Prop :=
  Relation.TransGen
    (fun a b => ((Table.at? views a).bind View.parent).map ViewId.key = some b) k anc

/-- The checks of NARROW VIEW (R32). -/
def narrowChecks (i : PortId) (selector target targetSelector rights : Byte) (s : State) :
    List (Bool × ResultCode) :=
  let h := s.caller i
  let t := Holder.ofCode? target.toNat
  let v := t.bind fun t => s.viewAt t targetSelector
  viewChecks s h selector ++
  [(t.isNone, .badArg),
   (decide (targetSelector = 0#8), .nullSelector),
   (!(t.any fun t => decide (targetSelector.toNat ≤ t.selectorRange)), .badArg),
   (v.isNone, .stale),
   (!(t.any fun t => isAncestor s.dir.views (ViewId.key ⟨h, selector.toNat⟩) Config.treeDepth
        (ViewId.key ⟨t, targetSelector.toNat⟩)), .notAncestor),
   (decide (16 ≤ rights.toNat) || !(v.any fun v => (rightsOf rights).subset v.rights), .badArg)]

/-- The checks of DROP VIEW (R39). -/
def dropChecks (i : PortId) (selector : Byte) (s : State) : List (Bool × ResultCode) :=
  viewChecks s (s.caller i) selector ++
  [((s.viewAt (s.caller i) selector).any View.root, .badArg)]

/-- The checks of RETIRE WINDOW (R82) and of RENEW (R18). -/
def ownerChecks (i : PortId) (selector : Byte) (s : State) : List (Bool × ResultCode) :=
  let h := s.caller i
  let v := s.viewAt h selector
  viewChecks s h selector ++
  [(!(v.any View.root) && !decide (h = .payment), .notOwner),
   (notLive (s.behind v), .stale)]

/-- The checks of SWAP BANKS (R69). -/
def swapChecks (i : PortId) (selector : Byte) (s : State) : List (Bool × ResultCode) :=
  let v := s.viewAt (s.caller i) selector
  let w := s.behind v
  viewChecks s (s.caller i) selector ++
  [(notLive w, .stale),
   (!(v.any fun v => v.rights.swap), .rights),
   ((w.bind fun w => w.addressed 0x01#8).isNone, .badArg)]

/-- The checks of STAGE LIMIT (R74). -/
def stageChecks (i : PortId) (selector : Byte) (limit : BitVec 24) (s : State) :
    List (Bool × ResultCode) :=
  let w := s.behind (s.viewAt (s.caller i) selector)
  let shadow := w.bind fun w => w.addressed 0x01#8
  swapChecks i selector s ++
  [(!(w.any fun w => decide (w.unit ∣ limit.toNat ∧ w.unit ≤ limit.toNat))
      || !(shadow.any fun b => decide (limit.toNat ≤ b.2.pageCount * 256)), .badArg),
   (!(w.any Window.quiet), .windowBusy)]

/-- The checks of the four policy commands (R171); `outside` says that a parameter is out of range. -/
def policyChecks (i : PortId) (outside : Bool) (s : State) : List (Bool × ResultCode) :=
  [(!decide (i = .pPort), .notReady),
   (decide (s.policy.phase = .running), .locked),
   (outside, .badArg)]

/-- The checks of CLEAR TAMPER (R153). -/
def clearTamperChecks (i : PortId) (s : State) : List (Bool × ResultCode) :=
  [(!decide (i = .pPort), .notOwner),
   (!decide (s.policy.phase = .running), .notReady),
   (s.dir.windows.any fun e => decide (e.2.cls = .guarded), .busy)]

/-- The checks of OPEN SLOT (R136). -/
def openSlotChecks (n : Byte) (s : State) : List (Bool × ResultCode) :=
  [(!decide (s.ports.acting = 0), .notOwner),
   (decide (n.toNat = 0) || decide (31 < n.toNat), .badArg),
   (decide (s.slot n.toNat = .opened), .badArg),
   (decide (s.slot n.toNat = .closing), .busy)]

/-- The checks of CLOSE SLOT (R137). -/
def closeSlotChecks (n : Byte) (s : State) : List (Bool × ResultCode) :=
  [(!decide (s.ports.acting = 0), .notOwner),
   (decide (n.toNat = 0) || decide (31 < n.toNat), .badArg),
   (!decide (s.slot n.toNat = .opened), .badArg)]

/-- The bank of a window that a move's side names (R121). -/
def Window.named (w : Window) (name : BankName) : Option Bank :=
  match name with
  | .live => w.bank? w.live
  | .shadow => if w.bank1.isSome then w.bank? w.live.other else none

/-- The checks 1 to 7 of the start of a move (R121). -/
def startChecks (s : State) (r : MoveRequest) : List (Bool × ResultCode) :=
  let sv := s.view? ⟨r.requester, r.srcSelector⟩
  let dv := s.view? ⟨r.requester, r.dstSelector⟩
  let sw := s.behind sv
  let dw := s.behind dv
  let span := r.mode.sourceSpan r.count
  [(!s.active r.requester || r.closeMark, .aborted),
   (notLive sw || notLive dw, .stale),
   (!(sv.any fun v => v.rights.read) || !(dv.any fun v => v.rights.write)
      || (decide (r.srcBank = .shadow) && !(sv.any fun v => v.rights.swap))
      || (decide (r.dstBank = .shadow) && !(dv.any fun v => v.rights.swap)), .rights),
   (!(sw.any fun w => decide (w.unit ∣ r.srcOffset ∧ w.unit ∣ span))
      || !(dw.any fun w => decide (w.unit ∣ r.dstOffset ∧ w.unit ∣ r.count))
      || (match r.mode with
          | .fill unit => !decide (unit ∣ r.count)
          | .copy => false
          | .descend => false), .align),
   (!((sw.bind fun w => w.named r.srcBank).any fun b => decide (r.srcOffset + span ≤ b.limit))
      || !((dw.bind fun w => w.named r.dstBank).any fun b =>
            decide (r.dstOffset + r.count ≤ b.limit)), .limit),
   ((sw.any fun w => w.swapPending.isSome) || (dw.any fun w => w.swapPending.isSome), .windowBusy),
   ((sw.any fun w => decide (w.cls = .guarded)) && (dw.any fun w => decide (w.cls = .common)),
      .classRefused)]

/-- A check of the chunk check fails (R125). -/
def chunkCheckFails (s : State) (r : MoveRequest) (x : Resolved) : Bool :=
  let sv := s.view? ⟨r.requester, r.srcSelector⟩
  let dv := s.view? ⟨r.requester, r.dstSelector⟩
  !s.active r.requester || r.closeMark
    || !(sv.any fun v => decide (v.window = x.srcWindow))
    || !(dv.any fun v => decide (v.window = x.dstWindow))
    || notLive (s.window? x.srcWindow) || notLive (s.window? x.dstWindow)
    || !(sv.any fun v => v.rights.read) || !(dv.any fun v => v.rights.write)
    || (decide (r.srcBank = .shadow) && !(sv.any fun v => v.rights.swap))
    || (decide (r.dstBank = .shadow) && !(dv.any fun v => v.rights.swap))
    || r.resetMark

/-! ### Effects that several rules share -/

/-- A LIVE window that begins retirement (R79): DRAINING, or QUEUED where it is quiet. -/
def Window.retired (w : Window) (cause : RetireCause) : Window :=
  { w with
    state := if w.quiet then .queued else .draining
    cause := some cause
    swapPending := none }

/-- A window at its quiet point (R55 step 3, R72, R84): what the quiet-point action leaves of it. -/
def Window.settled (w : Window) : Window :=
  if w.quiet then
    match w.state with
    | .draining => { w with state := .queued }
    | .live =>
      if w.swapPending.isSome then { w with live := w.live.other, swapPending := none } else w
    | .queued => w
    | .clearing => w
  else w

/-- The quiet-point action puts the window on the Retire Queue. -/
def Window.joinsQueue (w : Window) : Bool := w.quiet && decide (w.state = .draining)

/-- The SWAP_DONE notices of an exchange that leaves a window so: one for every VALID view of it, in
the order of its tree (R66). -/
def exchangeNotices (s : State) (k : Nat) (after : Window) (source : SwapSource) : List Notice :=
  (windowWalk s.dir.views k).map fun j =>
    Notice.swapDone (ViewId.ofKey j) source after.live after.liveLimit

/-- The notices of the quiet-point action (R72). -/
def settledNotices (s : State) (k : Nat) (w : Window) : List Notice :=
  if w.quiet && w.isLive then
    match w.swapPending with
    | some source => exchangeNotices s k w.settled source
    | none => []
  else []

/-- The notice of an uncorrectable read from a window, posted where the damaged flag was clear (R20). -/
def damageNotices (s : State) (k : Nat) (w : Window) : List Notice :=
  if w.damaged then [] else [Notice.windowDamaged w.owner (rootSelector s.dir.views k)]

/-- The windows whose pins the end of a move releases, the source first (R127). -/
def MoveRequest.releases (r : MoveRequest) : List Nat :=
  match r.resolved with
  | none => []
  | some x => if x.dstWindow = x.srcWindow then [x.srcWindow] else [x.srcWindow, x.dstWindow]

/-- The window is the source of the move. -/
def MoveRequest.readsFrom (r : MoveRequest) (k : Nat) : Bool :=
  decide (r.resolved.map Resolved.srcWindow = some k)

/-- A window released by the end of a move, before its quiet-point action (R127 steps 1 and 2). -/
def Window.released (w : Window) (damages : Bool) : Window :=
  { w with pinned := false, damaged := w.damaged || damages }

/-- The window at an index as the end of a move releases it, if the index names one. -/
def State.releasedAt (s : State) (r : MoveRequest) (dataError : Bool) (k : Nat) : Option Window :=
  (s.window? k).map fun w => w.released (dataError && r.readsFrom k)

/-- The notices of the end of a move, in the order of R127. -/
def moveEndNotices (s : State) (r : MoveRequest) (code : ResultCode) (dataError : Bool) :
    List Notice :=
  (if dataError then
      match r.resolved with
      | some x => ((s.window? x.srcWindow).map (damageNotices s x.srcWindow)).getD []
      | none => []
    else [])
    ++ (r.releases.flatMap fun k =>
          ((s.releasedAt r dataError k).map (settledNotices s k)).getD [])
    ++ (if r.resetMark && !decide (code = .ok) then []
        else [Notice.moveDone r.requester r.reference code r.progress s.move.corrected])

/-- What the end of the move at the head of the queue leaves (R127): `r` is the request, `code` its
result, `dataError` that it read an uncorrectable source word. -/
def MoveEnded (s t : State) (r : MoveRequest) (code : ResultCode) (dataError : Bool) : Prop :=
  t.move.queue = s.move.queue.tail ∧ t.move.state = .idle ∧ t.move.corrected = 0
    ∧ (∀ k ∈ r.releases, t.window? k = (s.releasedAt r dataError k).map Window.settled)
    ∧ t.retire.queue
        = s.retire.queue
            ++ (r.releases.filter fun k => (s.releasedAt r dataError k).any Window.joinsQueue)
    ∧ Posted s t (moveEndNotices s r code dataError)
    ∧ UnchangedBut
        (fun x => x.isNotice ∨ (∃ k ∈ r.releases, x = .window k) ∨ x = .retireQueue
          ∨ x = .moveQueue ∨ x = .moveState ∨ x = .moveCorrected) s t

/-! ### Exchange memory -/

/-- A word is touched when at least one of its bytes lies in the range (R52). -/
def Touched (a n k : Nat) : Prop := ∃ x, a ≤ x ∧ x < a + n ∧ x / 8 = k

/-- The word is only partly in the range (R52). -/
def PartlyIn (a n k : Nat) : Prop :=
  Touched a n k ∧ ∃ x, x / 8 = k ∧ ¬(a ≤ x ∧ x < a + n)

/-- What a write of `data` at address `a` makes of a memory (R52, R101): the bytes in the range are the
new ones, the other bytes of a touched word are as delivered, every touched word is clean, and the rest
of memory is unchanged. -/
def Written (m m' : Memory) (a : Nat) (data : List Byte) : Prop :=
  (∀ j < data.length, m'.byte (a + j) = data.getD j 0#8)
    ∧ (∀ x, ¬(a ≤ x ∧ x < a + data.length) → Touched a data.length (x / 8) →
        m'.byte x = m.delivered x)
    ∧ (∀ x, ¬Touched a data.length (x / 8) → m'.byte x = m.byte x)
    ∧ (∀ k, Touched a data.length k → m'.disturbed k = [])
    ∧ ∀ k, ¬Touched a data.length k → m'.disturbed k = m.disturbed k

/-- What the scrub of a page makes of a memory (R89): its bytes zero, its words clean, the rest
unchanged. -/
def Scrubbed (m m' : Memory) (page : Nat) : Prop :=
  (∀ x, m'.byte x = if x / 256 = page then 0#8 else m.byte x)
    ∧ ∀ k, m'.disturbed k = if k / 32 = page then [] else m.disturbed k

end Sys2Proof.Machine
end

