-- ==== Sys2Proof/Certificates/Slice0/Obligations.lean ====
section
/-! DEFINITION. The statements for the provers. Each says in its docstring which rules of the manual it
rests on, and which words of it are the model's own choice.

A command's statement gives the next state by what it holds and ends in `UnchangedBut`: every piece of
state that it does not name is as before.
-/

open Sys2Proof Sys2Proof.Machine

/-! ### The step -/

/-- A step takes the command at the front of the queue and runs it on the part with the rest of the
queue; on an empty queue the part idles, which is the model's choice (assumption 2). -/
def Obligations.StepRunsFrontCommand : Prop :=
  (∀ (c : Instr) (s : State), step (s.withFront c) = exec c s)
    ∧ (∀ (c : Instr) (rest : List Instr) (s : State),
        step { s with pending := c :: rest } = exec c { s with pending := rest })
    ∧ ∀ s : State, s.pending = [] → step s = .next s

/-- Every command of every state runs to a next state while the work of the part is accounted for, and
no command touches the queue of those that wait. That a row which is not due runs and changes nothing
(assumption 1), which fault a grant outside its bank would end in (assumption 14), and that a device
reset keeps the commands that wait (assumption 19) are the model's choices. -/
def Obligations.NoCommandStops : Prop :=
  ∀ (c : Instr) (s : State), WorkAccounted s →
    ∃ t, exec c s = .next t ∧ t.pending = s.pending

/-! ### Port links and the busy rule -/

/-- R161: the busy rule. A NOT_READY port takes READ STATUS alone, an EXECUTING or RESETTING one READ
STATUS, READ NOTICE and PORT RESET, and every other command that passes the judgement of its frame is
refused with nothing changed. On an IDLE port the commands that hand over no transfer leave it IDLE. -/
def Obligations.BusyRule : Prop :=
  ∀ (c : Instr) (i : PortId) (s : State), PassesFrame c i →
    ((s.port i).state = .notReady → c ≠ .readStatus i → Refused c s i .notReady)
      ∧ ((s.port i).state = .executing ∨ (s.port i).state = .resetting →
          c ≠ .readStatus i → c ≠ .readNotice i → c ≠ .portReset i → Refused c s i .busy)
      ∧ ((s.port i).state = .idle → (∀ a, c ≠ .put i a) → (∀ a, c ≠ .fetch i a) →
          ∃ t, exec c s = .next t ∧ (t.port i).state = .idle)

/-- R162: READ STATUS is taken in every port state, answers the status fields as they stood, and clears
the notices-lost flag alone. The order and the width of the fields are those of R175. -/
def Obligations.ReadStatusAnswers : Prop :=
  ∀ (i : PortId) (s : State), ∃ t, exec (.readStatus i) s = .next t
    ∧ t.answered i .ok
        ([(s.port i).state.toByte, s.policy.phase.toByte, flagByte s.dir.tamper,
          (s.port i).last.code.toByte,
          byteOf ((s.port i).last.bytes / 256), byteOf (s.port i).last.bytes,
          byteOf (s.port i).last.corrected, byteOf (s.port i).last.uncorrectable,
          byteOf (s.port i).notices.length, flagByte (s.port i).lost, flagByte (s.port i).mark,
          if i = .aPort then byteOf s.ports.acting.val else 0xFF#8])
    ∧ (t.port i).lost = false
    ∧ UnchangedBut (fun x => x = .noticesLost i ∨ x = .response i) s t

/-- R164: READ NOTICE removes the oldest notice and answers it, or answers a NONE record of twelve zero
bytes. The order and the width of the fields are those of R176. -/
def Obligations.ReadNoticeTakesOldest : Prop :=
  ∀ (i : PortId) (s : State), (s.port i).state ≠ .notReady →
    (∀ n rest, (s.port i).notices = n :: rest →
      ∃ t, exec (.readNotice i) s = .next t
        ∧ t.answered i .ok
            [n.kind.toByte, byteOf n.holder.code, byteOf n.selector, n.code.toByte, n.a0, n.a1, n.a2,
              n.a3, byteOf (n.b.toNat / 16777216), byteOf (n.b.toNat / 65536),
              byteOf (n.b.toNat / 256), byteOf n.b.toNat]
        ∧ (t.port i).notices = rest
        ∧ UnchangedBut (fun x => x = .notices i ∨ x = .response i) s t)
    ∧ ((s.port i).notices = [] →
      ∃ t, exec (.readNotice i) s = .next t ∧ t.answered i .ok (List.replicate 12 0#8)
        ∧ UnchangedBut (fun x => x = .response i) s t)

/-- R166 and R128: PORT RESET acts at once on an IDLE port, waits on an EXECUTING one, and changes
nothing on a RESETTING one. -/
def Obligations.PortResetActsOrWaits : Prop :=
  ∀ (i : PortId) (s : State),
    ((s.port i).state = .idle →
      ∃ t, exec (.portReset i) s = .next t ∧ t.answered i .ok [0x00#8]
        ∧ (t.port i).notices = [] ∧ (t.port i).lost = false
        ∧ (t.port i).last = ⟨.ok, 0, 0, 0⟩ ∧ (t.port i).state = .idle
        ∧ t.move.queue
            = ((s.move.queue.filter fun r => r.running || decide (r.requester.port ≠ i)).map
                fun r => if r.requester.port = i then { r with resetMark := true } else r)
        ∧ UnchangedBut (fun x => x = .notices i ∨ x = .noticesLost i ∨ x = .lastResult i
            ∨ x = .moveQueue ∨ x = .response i) s t)
    ∧ ((s.port i).state = .executing →
      ∃ t, exec (.portReset i) s = .next t ∧ t.answered i .ok [0x01#8]
        ∧ (t.port i).state = .resetting
        ∧ UnchangedBut (fun x => x = .portState i ∨ x = .response i) s t)
    ∧ ((s.port i).state = .resetting →
      ∃ t, exec (.portReset i) s = .next t ∧ t.answered i .ok [0x01#8]
        ∧ UnchangedBut (fun x => x = .response i) s t)
    ∧ ((s.port i).state = .notReady → Refused (.portReset i) s i .notReady)

/-- R157 and R158: a complete request that fails the judgement is answered FRAME or UNKNOWN in every
port state; one that ends too early is discarded with nothing changed and no response driven. That the
response held in the state is then absent is the model's choice (assumption 6). -/
def Obligations.BadFramesChangeNothing : Prop :=
  ∀ (i : PortId) (bytes : List Byte) (s : State),
    (Frame.judge i bytes = .frame → Refused (.frameRejected i bytes) s i .frame)
      ∧ (Frame.judge i bytes = .unknown → Refused (.frameRejected i bytes) s i .unknown)
      ∧ (Frame.judge i bytes = .incomplete →
          ∃ t, exec (.frameDiscarded i bytes) s = .next t ∧ (t.port i).response = none
            ∧ UnchangedBut (fun x => x = .response i) s t)

/-- R163: a notice joins the tail of the queue of the port that serves its holder while a place is
free, of 16 on the P-port and the N-port and 32 on the A-port; otherwise it is dropped, the notices
already queued are kept, and the notices-lost flag is set. The other ports are not touched. -/
def Obligations.PostingRule : Prop :=
  ∀ (s : State) (n : Notice) (i : PortId),
    s.noticesAfter [n] i
        = (if n.holder.port = i ∧ (s.port i).notices.length < (if i = .aPort then 32 else 16)
            then (s.port i).notices ++ [n] else (s.port i).notices)
      ∧ s.lostAfter [n] i
        = ((s.port i).lost
            || decide (n.holder.port = i
                ∧ (if i = .aPort then 32 else 16) ≤ (s.port i).notices.length))

/-- R165: the attention line is active exactly while the queue holds a notice, so that a post that joins
an empty queue raises it, a READ NOTICE that takes the last notice and a port reset that acts lower it,
a post that is dropped leaves it active, and it is inactive after device reset. -/
def Obligations.AttentionFollowsQueue : Prop :=
  (∀ x : Port, x.attn = true ↔ x.notices ≠ [])
    ∧ (∀ (ps : Ports) (n : Notice), ((ps.post n).get n.holder.port).attn = true)
    ∧ (∀ (i : PortId) (s t : State) (n : Notice), (s.port i).state ≠ .notReady →
        (s.port i).notices = [n] → exec (.readNotice i) s = .next t → (t.port i).attn = false)
    ∧ (∀ (i : PortId) (s : State), ((s.actReset i).port i).attn = false)
    ∧ ∀ i : PortId, (State.reset.port i).attn = false

/-! ### Staging -/

/-- R44: LOAD STAGING writes the payload into the columns from the given one on and nothing else; a
count of 0 or a run past column 511 is BAD_ARG, and a payload of another length is FRAME in every port
state (R158). -/
def Obligations.LoadStagingWritesColumns : Prop :=
  ∀ (i : PortId) (column count : BitVec 16) (payload : List Byte) (s : State),
    (payload.length ≠ count.toNat → Refused (.loadStaging i column count payload) s i .frame)
      ∧ (payload.length = count.toNat → (s.port i).state = .idle →
          (count.toNat = 0 ∨ 512 < column.toNat + count.toNat →
            Refused (.loadStaging i column count payload) s i .badArg)
          ∧ (count.toNat ≠ 0 → column.toNat + count.toNat ≤ 512 →
            ∃ t, exec (.loadStaging i column count payload) s = .next t ∧ t.answered i .ok []
              ∧ (∀ c, t.column i c
                  = if column.toNat ≤ c ∧ c < column.toNat + count.toNat
                    then payload.getD (c - column.toNat) 0#8 else s.column i c)
              ∧ UnchangedBut (fun x => (∃ c, column.toNat ≤ c ∧ c < column.toNat + count.toNat
                  ∧ x = .stagingColumn i c) ∨ x = .response i) s t))

/-- R45: READ STAGING answers the run of columns in order and changes nothing; a count of 0 or a run
past column 511 is BAD_ARG. -/
def Obligations.ReadStagingAnswersColumns : Prop :=
  ∀ (i : PortId) (column count : BitVec 16) (s : State), (s.port i).state = .idle →
    (count.toNat = 0 ∨ 512 < column.toNat + count.toNat →
      Refused (.readStaging i column count) s i .badArg)
    ∧ (count.toNat ≠ 0 → column.toNat + count.toNat ≤ 512 →
      ∃ t, exec (.readStaging i column count) s = .next t
        ∧ t.answered i .ok ((List.range count.toNat).map fun k => s.column i (column.toNat + k))
        ∧ UnchangedBut (fun x => x = .response i) s t)

/-- R46: CLEAR STAGING zeroes all columns and clears the guarded mark, whatever the mark's state, in
the port state in which staging commands are taken. -/
def Obligations.ClearStagingClearsAll : Prop :=
  ∀ (i : PortId) (s : State), (s.port i).state = .idle →
    ∃ t, exec (.clearStaging i) s = .next t ∧ t.answered i .ok []
      ∧ (∀ c, t.column i c = 0#8) ∧ (t.port i).mark = false
      ∧ UnchangedBut (fun x => (∃ c, x = .stagingColumn i c) ∨ x = .guardedMark i
          ∨ x = .response i) s t

/-! ### Transfers -/

/-- R48 and R49: the checks of PUT and FETCH in their order, the first that fails giving the result with
nothing changed; where all pass, the addressed bank is resolved, the in-flight count rises by 1, the port
holds the transfer, becomes EXECUTING and waits at the arbiter, and the answer is ACCEPTED. -/
def Obligations.TransferAdmission : Prop :=
  (∀ (i : PortId) (a : TransferParams) (s : State) (code : ResultCode), (s.port i).state = .idle →
    (firstFailure (transferChecks .put i a s) = some code → Refused (.put i a) s i code)
      ∧ (firstFailure (transferChecks .fetch i a s) = some code → Refused (.fetch i a) s i code))
  ∧ (∀ (c : Instr) (kind : TransferKind) (i : PortId) (a : TransferParams) (s : State) (v : View)
      (w : Window) (b : BankNo × Bank),
    (c = .put i a ∧ kind = .put) ∨ (c = .fetch i a ∧ kind = .fetch) →
    (s.port i).state = .idle → firstFailure (transferChecks kind i a s) = none →
    s.viewAt (s.caller i) a.selector = some v → s.window? v.window = some w →
    w.addressed a.bank = some b →
    ∃ t, exec c s = .next t ∧ t.answered i .accepted []
      ∧ (t.port i).state = .executing
      ∧ (t.port i).transfer
          = some ⟨kind, v.window, b.1, a.offset.toNat, a.column.toNat, a.count.toNat⟩
      ∧ t.requests (.port i) = true
      ∧ t.window? v.window = some { w with inFlight := w.inFlight + 1 }
      ∧ UnchangedBut (fun x => x = .portState i ∨ x = .transfer i ∨ x = .completion i
          ∨ x = .window v.window ∨ x = .response i) s t)

/-- R51, R52 and R101: a granted PUT writes its bytes at the bank's address, merges the words partly in
the range, leaves every touched word clean, reports the merged words, and leaves the staging buffer and
its mark. `flips` is what nature has turned over since the last grant (assumption 3); the rule speaks of
the memory after it. -/
def Obligations.PutGrantWritesRange : Prop :=
  ∀ (i : PortId) (flips : List BitFlip) (s : State) (x : Transfer) (w : Window) (b : Bank),
    s.nextGrant = some (.port i) → (s.port i).transfer = some x → x.kind = .put →
    s.window? x.window = some w → w.bank? x.bank = some b →
    b.firstPage * 256 + x.offset + x.count ≤ 524288 →
    ∃ t, exec (.putGrant i flips) s = .next t
      ∧ Written (s.xm.disturb flips) t.xm (b.firstPage * 256 + x.offset)
          ((List.range x.count).map fun j => s.column i (x.column + j))
      ∧ (t.port i).completion
          = some
            ⟨(s.xm.disturb flips).countCorrected (mergedWords (b.firstPage * 256 + x.offset) x.count),
             (s.xm.disturb flips).countUncorrectable
              (mergedWords (b.firstPage * 256 + x.offset) x.count)⟩
      ∧ t.lastGranted = .port i
      ∧ UnchangedBut (fun y => y.inMemory ∨ y = .completion i ∨ y = .lastGranted) s t

/-- R51, R53 and R54: a granted FETCH delivers the bytes of its range into the staging columns, sets the
guarded mark for a GUARDED window, reports the words it read, and does not write exchange memory.
`flips` is as above (assumption 3). -/
def Obligations.FetchGrantReadsRange : Prop :=
  ∀ (i : PortId) (flips : List BitFlip) (s : State) (x : Transfer) (w : Window) (b : Bank),
    s.nextGrant = some (.port i) → (s.port i).transfer = some x → x.kind = .fetch →
    s.window? x.window = some w → w.bank? x.bank = some b →
    b.firstPage * 256 + x.offset + x.count ≤ 524288 →
    ∃ t, exec (.fetchGrant i flips) s = .next t
      ∧ t.xm = s.xm.disturb flips
      ∧ (∀ c, t.column i c
          = if x.column ≤ c ∧ c < x.column + x.count
            then (s.xm.disturb flips).delivered
              (b.firstPage * 256 + x.offset + (c - x.column))
            else s.column i c)
      ∧ (t.port i).mark = ((s.port i).mark || decide (w.cls = .guarded))
      ∧ (t.port i).completion
          = some
            ⟨(s.xm.disturb flips).countCorrected
              (touchedWords (b.firstPage * 256 + x.offset) x.count),
             (s.xm.disturb flips).countUncorrectable
              (touchedWords (b.firstPage * 256 + x.offset) x.count)⟩
      ∧ t.lastGranted = .port i
      ∧ UnchangedBut (fun y => y.inMemory ∨ (∃ c, y = .stagingColumn i c) ∨ y = .guardedMark i
          ∨ y = .completion i ∨ y = .lastGranted) s t

/-- R55, R56, R57 and R166: the completion lowers the in-flight count, sets the damaged flag for a FETCH
that read an uncorrectable word, takes the quiet-point action, sets the last result and makes the port
IDLE; WINDOW_DAMAGED is posted before the SWAP_DONE of the same event. On a RESETTING port all of this
happens as on an EXECUTING one, and the port reset then acts on what it leaves. -/
def Obligations.CompletionEndsTransfer : Prop :=
  (∀ (i : PortId) (s : State) (x : Transfer) (c : Completion) (w w' : Window),
    (s.port i).state = .executing → (s.port i).transfer = some x →
    (s.port i).completion = some c → s.window? x.window = some w →
    w' = { w with
      inFlight := w.inFlight - 1
      damaged := w.damaged || decide (x.kind = .fetch ∧ c.uncorrectable ≠ 0) } →
    ∃ t, exec (.transferCompletion i) s = .next t
      ∧ t.window? x.window = some w'.settled
      ∧ t.retire.queue = s.retire.queue ++ (if w'.joinsQueue then [x.window] else [])
      ∧ Posted s t
          ((if x.kind = .fetch ∧ c.uncorrectable ≠ 0 then damageNotices s x.window w else [])
            ++ settledNotices s x.window w')
      ∧ (t.port i).state = .idle ∧ (t.port i).transfer = none ∧ (t.port i).completion = none
      ∧ (t.port i).last
          = ⟨if x.kind = .fetch ∧ c.uncorrectable ≠ 0 then .dataError else .ok, x.count,
             c.corrected, c.uncorrectable⟩
      ∧ UnchangedBut (fun y => y.isNotice ∨ y = .window x.window ∨ y = .retireQueue
          ∨ y = .portState i ∨ y = .transfer i ∨ y = .completion i ∨ y = .lastResult i) s t)
  ∧ (∀ (i : PortId) (s u : State) (x : Transfer) (c : Completion),
    (s.port i).state = .resetting → (s.port i).transfer = some x →
    (s.port i).completion = some c →
    exec (.transferCompletion i) (s.setPort i { s.port i with state := .executing }) = .next u →
    ∃ t, exec (.transferCompletion i) s = .next t
      ∧ (t.port i).state = .idle ∧ (t.port i).notices = [] ∧ (t.port i).lost = false
      ∧ (t.port i).last = ⟨.ok, 0, 0, 0⟩
      ∧ t.move.queue
          = ((u.move.queue.filter fun r => r.running || decide (r.requester.port ≠ i)).map
              fun r => if r.requester.port = i then { r with resetMark := true } else r)
      ∧ UnchangedBut (fun y => y = .notices i ∨ y = .noticesLost i ∨ y = .lastResult i
          ∨ y = .moveQueue) u t)

/-! ### Exchange memory and the arbiter -/

/-- R99, R100 and R101. The words that a range touches are those of which a byte lies in it, and the
words that a write merges are those only partly in it; each is listed once. A clean word is delivered as
stored; one of which one stored bit is in error is judged corrected and handed to the reader as it was
written, whichever bit it is; one with two bits in error is judged uncorrectable and delivered as zeros.
Bits from 64 on stand for check bits (assumption 3). -/
def Obligations.WordsTouchedAndJudged : Prop :=
  (∀ a n k : Nat, (k ∈ touchedWords a n ↔ Touched a n k)
    ∧ (k ∈ mergedWords a n ↔ PartlyIn a n k)
    ∧ (touchedWords a n).Nodup ∧ (mergedWords a n).Nodup)
  ∧ (∀ (m : Memory) (k i b c : Nat), k < 65536 → i < 8 → m.disturbed k = [] →
    m.judge k = .clean ∧ m.delivered (8 * k + i) = m.byte (8 * k + i)
      ∧ (m.disturbBit ⟨k, b⟩).judge k = .corrected b
      ∧ (m.disturbBit ⟨k, b⟩).delivered (8 * k + i) = m.byte (8 * k + i)
      ∧ (b ≠ c → (m.disturb [⟨k, b⟩, ⟨k, c⟩]).judge k = .uncorrectable
          ∧ (m.disturb [⟨k, b⟩, ⟨k, c⟩]).delivered (8 * k + i) = 0#8))

/-- R113: a request waits until it is granted. Whatever the part takes but a device reset, a requester
that waits at the arbiter waits still, unless it was the next to be granted and what is taken is its
grant. -/
def Obligations.RequestsWaitForGrant : Prop :=
  ∀ (c : Instr) (s t : State) (r : Requester), exec c s = .next t → s.requests r = true →
    (∀ levels flips, c ≠ .deviceReset levels flips) →
    t.requests r = true ∨ (s.nextGrant = some r ∧ r.grantedBy c ∧ t.lastGranted = r)

/-- R113: the round robin. The arbiter grants some waiting requester whenever one waits; while a
requester waits, each grant to another brings it nearer in the cyclic order that begins after the one
last granted, and it starts at most four places from the front, so at most four grants precede its
own. Whatever the part takes but a device reset, the requester last granted changes only to the one that
was next; the first request of the start-up, which no row makes, is granted where it is made, which is
the model's reading (assumption 7). -/
def Obligations.RoundRobinBounded : Prop :=
  (∀ (s : State) (r : Requester), s.requests r = true →
    s.lastGranted.searchOrder.idxOf r ≤ 4
      ∧ (∃ g, s.nextGrant = some g ∧ s.requests g = true)
      ∧ ∀ g, s.nextGrant = some g → g ≠ r →
          g.searchOrder.idxOf r < s.lastGranted.searchOrder.idxOf r)
  ∧ ∀ (c : Instr) (s t : State), exec c s = .next t →
    (∀ levels flips, c ≠ .deviceReset levels flips) →
    t.lastGranted = s.lastGranted ∨ s.nextGrant = some t.lastGranted
      ∨ (c = .startupScrubGrant ∧ t.lastGranted = .retireEngine
          ∧ ∃ page, s.retire.state = .startUp page .toRequest)

/-- R105 to R108: the pools of each holder in their order, the first fit in a pool, and the placement of
bank 1 among the pages that bank 0 leaves. There is no place where no pool yields one, and none for the
window where either bank has none. -/
def Obligations.PlacementIsFirstFit : Prop :=
  (∀ (x : Policy) (slot : Fin 32),
      x.pools .payment = [(2048 - x.pReserve, 2048), (x.nReserve, 2048 - x.pReserve)]
        ∧ x.pools .radio = [(0, x.nReserve), (x.nReserve, 2048 - x.pReserve)]
        ∧ x.pools (.app slot) = [(x.nReserve, 2048 - x.pReserve)])
    ∧ (∀ (free : Nat → Bool) (lo hi n f : Nat), firstFit free lo hi n = some f ↔
        (lo ≤ f ∧ f + n ≤ hi ∧ ∀ j < n, free (f + j) = true)
          ∧ ∀ g, lo ≤ g → g < f → ∃ j < n, free (g + j) = false)
    ∧ (∀ (free : Nat → Bool) (lo hi n : Nat) (rest : List (Nat × Nat)),
        searchPools free ((lo, hi) :: rest) n
          = (firstFit free lo hi n).orElse fun _ => searchPools free rest n)
    ∧ (∀ (free : Nat → Bool) (n : Nat), searchPools free [] n = none)
    ∧ (∀ (s : State) (h : Holder) (n0 : Nat) (c1 : Option Nat),
        searchPools s.pageFree (s.policy.pools h) n0 = none → s.place h n0 c1 = none)
    ∧ ∀ (s : State) (h : Holder) (n0 n1 f0 : Nat),
        searchPools s.pageFree (s.policy.pools h) n0 = some f0 →
        s.place h n0 none = some (f0, none)
          ∧ s.place h n0 (some n1)
              = (searchPools
                  (fun p => s.pageFree p && !(decide (f0 ≤ p) && decide (p < f0 + n0)))
                  (s.policy.pools h) n1).map fun f1 => (f0, some f1)

/-! ### Windows -/

/-- R13, R15, R16 and R108: OPEN WINDOW. The checks in their order, the first that fails giving the
result with nothing changed. Where all pass, `k` is the lowest FREE entry, `n` the caller's lowest VOID
selector, and the place is the Page Allocator's; the entry and the root view hold what R16 lists, the
pages are ALLOCATED to their banks and the owner is charged. -/
def Obligations.OpenWindowOpens : Prop :=
  (∀ (i : PortId) (a : OpenParams) (s : State) (code : ResultCode), (s.port i).state = .idle →
    firstFailure (openChecks i a s) = some code → Refused (.openWindow i a) s i code)
  ∧ (∀ (i : PortId) (a : OpenParams) (s : State) (k n f0 : Nat) (f1 : Option Nat) (h : Holder),
    (s.port i).state = .idle → firstFailure (openChecks i a s) = none → h = s.caller i →
    1 ≤ k → s.window? k = none → (∀ j, 1 ≤ j → j < k → (s.window? j).isSome = true) →
    1 ≤ n → s.view? ⟨h, n⟩ = none → (∀ j, 1 ≤ j → j < n → (s.view? ⟨h, j⟩).isSome = true) →
    s.place h (openPages0 a) (openPages1 a) = some (f0, f1) →
    ∃ t, exec (.openWindow i a) s = .next t ∧ t.answered i .ok [byteOf n]
      ∧ t.window? k = some
          { state := .live
            owner := h
            cls := if a.cls = 0x01#8 then .guarded else .common
            unit := a.unit.toNat
            bank0 := ⟨f0, openPages0 a, a.length0.toNat⟩
            bank1 := (openPages1 a).bind fun c => f1.map fun f => ⟨f, c, a.length1.toNat⟩
            live := .zero
            swapPending := none
            inFlight := 0
            pinned := false
            lifetime := if a.lifetime = 0#16 then none else some a.lifetime.toNat
            binding := if a.line = 0xFF#8 then none
              else some ⟨a.line.toNat, if a.action = 0x01#8 then .swap else .retire⟩
            damaged := false
            cause := none }
      ∧ t.view? ⟨h, n⟩
          = some ⟨k, ⟨true, true, true, decide (a.bankCount = 0x02#8)⟩, true, none, 0⟩
      ∧ (∀ p, t.page p
          = if (f1.any fun f => decide (f ≤ p ∧ p < f + (openPages1 a).getD 0)) = true then
              .allocated k .one
            else if f0 ≤ p ∧ p < f0 + openPages0 a then .allocated k .zero
            else s.page p)
      ∧ t.counter h
          = ⟨(s.counter h).windows + 1,
             (s.counter h).pages + openPages0 a + (openPages1 a).getD 0⟩
      ∧ UnchangedBut (fun x => x = .window k ∨ x = .view (ViewId.key ⟨h, n⟩)
          ∨ (∃ p, x = .page p) ∨ x = .counter h ∨ x = .response i) s t)

/-- R18, R79 and R82: RETIRE WINDOW and RENEW, which share their checks. RETIRE WINDOW makes the window
QUEUED and puts it on the Retire Queue if it was quiet, and DRAINING otherwise, with cause OWNER through
the root view and FORCED through another, and answers the state reached; RENEW replaces the lifetime, or
removes it where 0 is given. -/
def Obligations.OwnerCommandsAct : Prop :=
  (∀ (i : PortId) (selector : Byte) (s : State), (s.port i).state = .idle →
    (∀ code, firstFailure (ownerChecks i selector s) = some code →
      Refused (.retireWindow i selector) s i code)
    ∧ ∀ v w, firstFailure (ownerChecks i selector s) = none →
      s.viewAt (s.caller i) selector = some v → s.window? v.window = some w →
      ∃ t, exec (.retireWindow i selector) s = .next t
        ∧ t.answered i .ok [if w.quiet then 0x03#8 else 0x02#8]
        ∧ t.window? v.window = some (w.retired (if v.root then .owner else .forced))
        ∧ t.retire.queue = s.retire.queue ++ (if w.quiet then [v.window] else [])
        ∧ UnchangedBut (fun x => x = .window v.window ∨ x = .retireQueue ∨ x = .response i) s t)
  ∧ (∀ (i : PortId) (selector : Byte) (ticks : BitVec 16) (s : State), (s.port i).state = .idle →
    (∀ code, firstFailure (ownerChecks i selector s) = some code →
      Refused (.renew i selector ticks) s i code)
    ∧ ∀ v w, firstFailure (ownerChecks i selector s) = none →
      s.viewAt (s.caller i) selector = some v → s.window? v.window = some w →
      ∃ t, exec (.renew i selector ticks) s = .next t ∧ t.answered i .ok []
        ∧ t.window? v.window
            = some { w with lifetime := if ticks.toNat = 0 then none else some ticks.toNat }
        ∧ UnchangedBut (fun x => x = .window v.window ∨ x = .response i) s t)

/-- R74: STAGE LIMIT replaces the limit of the bank that is not live, on a quiet window. -/
def Obligations.StageLimitSetsShadow : Prop :=
  ∀ (i : PortId) (selector : Byte) (limit : BitVec 24) (s : State), (s.port i).state = .idle →
    (∀ code, firstFailure (stageChecks i selector limit s) = some code →
      Refused (.stageLimit i selector limit) s i code)
    ∧ ∀ v w n b, firstFailure (stageChecks i selector limit s) = none →
      s.viewAt (s.caller i) selector = some v → s.window? v.window = some w →
      w.addressed 0x01#8 = some (n, b) →
      ∃ t, exec (.stageLimit i selector limit) s = .next t ∧ t.answered i .ok []
        ∧ t.window? v.window = some (w.setBank n { b with limit := limit.toNat })
        ∧ UnchangedBut (fun x => x = .window v.window ∨ x = .response i) s t

/-- R65, R66, R68 and R69: SWAP BANKS exchanges the banks of a quiet window at once, with SWAP_DONE to
every holder of a view, and otherwise leaves swap pending with the source first recorded. -/
def Obligations.SwapBanksExchanges : Prop :=
  ∀ (i : PortId) (selector : Byte) (s : State), (s.port i).state = .idle →
    (∀ code, firstFailure (swapChecks i selector s) = some code →
      Refused (.swapBanks i selector) s i code)
    ∧ ∀ v w, firstFailure (swapChecks i selector s) = none →
      s.viewAt (s.caller i) selector = some v → s.window? v.window = some w →
      (w.quiet = true →
        ∃ t, exec (.swapBanks i selector) s = .next t ∧ t.answered i .ok [0x00#8]
          ∧ t.window? v.window = some { w with live := w.live.other, swapPending := none }
          ∧ Posted s t (exchangeNotices s v.window
              { w with live := w.live.other, swapPending := none } .holder)
          ∧ UnchangedBut (fun x => x.isNotice ∨ x = .window v.window ∨ x = .response i) s t)
      ∧ (w.quiet = false →
        ∃ t, exec (.swapBanks i selector) s = .next t ∧ t.answered i .ok [0x01#8]
          ∧ t.window? v.window
              = some { w with swapPending := w.swapPending.or (some .holder) }
          ∧ UnchangedBut (fun x => x = .window v.window ∨ x = .response i) s t)

/-! ### Views -/

/-- R37, R66 and R88: the walk over the VALID views of a window takes each of its views once and no
other, and is the walk from its root where it has one root; the walk over a subtree is in preorder: a
view, then each of its children, in order of holder code and then selector, with its whole subtree. The
keys of the View Table are in that order. -/
def Obligations.TreeWalkPreorder : Prop :=
  (∀ u v : ViewId, u.inRange → v.inRange →
    (u.key < v.key ↔ u.holder.code < v.holder.code
      ∨ (u.holder.code = v.holder.code ∧ u.selector < v.selector)))
  ∧ ∀ s : State, GrantTrees s →
    (∀ w k, k ∈ windowWalk s.dir.views w
      ↔ ∃ x, Table.at? s.dir.views k = some x ∧ x.window = w)
    ∧ (∀ w, (windowWalk s.dir.views w).Nodup)
    ∧ (∀ w k x, Table.at? s.dir.views k = some x → x.window = w → x.root = true →
        (∀ j y, Table.at? s.dir.views j = some y → y.window = w → y.root = true → j = k) →
        windowWalk s.dir.views w = subtree s.dir.views k)
    ∧ ∀ k x, Table.at? s.dir.views k = some x →
        subtree s.dir.views k
            = k :: (childrenOf s.dir.views k).flatMap (subtree s.dir.views)
          ∧ (childrenOf s.dir.views k).Pairwise (· < ·)
          ∧ ∀ j, j ∈ childrenOf s.dir.views k
              ↔ ∃ y, Table.at? s.dir.views j = some y ∧ y.parent.map ViewId.key = some k

/-- R29 and R30: GRANT VIEW. The checks in their order; where all pass, the child view stands in the
target's lowest VOID selector `n`, VIEW_GRANTED is posted to it, and the answer is `n`. -/
def Obligations.GrantViewCreatesChild : Prop :=
  ∀ (i : PortId) (selector target rights : Byte) (s : State), (s.port i).state = .idle →
    (∀ code, firstFailure (grantChecks i selector target rights s) = some code →
      Refused (.grantView i selector target rights) s i code)
    ∧ ∀ v w h n, firstFailure (grantChecks i selector target rights s) = none →
      s.viewAt (s.caller i) selector = some v → s.window? v.window = some w →
      Holder.ofCode? target.toNat = some h →
      1 ≤ n → s.view? ⟨h, n⟩ = none → (∀ j, 1 ≤ j → j < n → (s.view? ⟨h, j⟩).isSome = true) →
      ∃ t, exec (.grantView i selector target rights) s = .next t
        ∧ t.answered i .ok [byteOf n]
        ∧ t.view? ⟨h, n⟩
            = some ⟨v.window, rightsOf rights, false, some ⟨s.caller i, selector.toNat⟩,
                v.depth + 1⟩
        ∧ Posted s t
            [⟨.viewGranted, h, n, .ok, rights, byteOf (s.caller i).code, 0#8, 0#8,
              BitVec.ofNat 32 w.liveLimit⟩]
        ∧ UnchangedBut (fun x => x.isNotice ∨ x = .view (ViewId.key ⟨h, n⟩) ∨ x = .response i) s t

/-- R32 to R35: NARROW VIEW. The checks in their order, the first that fails giving the result with
nothing changed. Where all pass, every view of the target's subtree keeps the intersection of its rights
with the new ones, those that keep none are voided, every other view is as before, and the holders are
told in the order of the walk: VIEW_NARROWED where rights shrank, VIEW_VOIDED with NARROWED_TO_NONE for
the top of a voided part and PARENT_VOIDED below it. That the order is the one walk over the target's
subtree where several parts are voided is the model's reading (assumption 23). The caller's view is the target's ancestor exactly
where it is reached from the target by following parent fields one or more steps. -/
def Obligations.NarrowViewIntersects : Prop :=
  (∀ (s : State) (anc k : Nat), GrantTrees s →
    (isAncestor s.dir.views anc Config.treeDepth k = true ↔ ProperAncestor s.dir.views anc k))
  ∧ (∀ (i : PortId) (selector target targetSelector rights : Byte) (s : State) (code : ResultCode),
    (s.port i).state = .idle →
    firstFailure (narrowChecks i selector target targetSelector rights s) = some code →
    Refused (.narrowView i selector target targetSelector rights) s i code)
  ∧ (∀ (i : PortId) (selector target targetSelector rights : Byte) (s : State) (h : Holder) (k : Nat),
    (s.port i).state = .idle → GrantTrees s →
    firstFailure (narrowChecks i selector target targetSelector rights s) = none →
    Holder.ofCode? target.toNat = some h → k = ViewId.key ⟨h, targetSelector.toNat⟩ →
    ∃ t, exec (.narrowView i selector target targetSelector rights) s = .next t
      ∧ t.answered i .ok []
      ∧ (∀ j, Table.at? t.dir.views j
          = if j ∈ subtree s.dir.views k then
              (Table.at? s.dir.views j).bind fun x =>
                if (x.rights.inter (rightsOf rights)).isEmpty then none
                else some { x with rights := x.rights.inter (rightsOf rights) }
            else Table.at? s.dir.views j)
      ∧ Posted s t
          ((subtree s.dir.views k).filterMap fun j =>
            (Table.at? s.dir.views j).bind fun x =>
              if (x.rights.inter (rightsOf rights)).isEmpty then
                if j ≠ k ∧ (((x.parent.map ViewId.key).bind (Table.at? s.dir.views)).any fun q =>
                    (q.rights.inter (rightsOf rights)).isEmpty) = true then
                  some (Notice.viewVoided (ViewId.ofKey j) .parentVoided)
                else some (Notice.viewVoided (ViewId.ofKey j) .narrowedToNone)
              else if x.rights.inter (rightsOf rights) = x.rights then none
              else some (Notice.viewNarrowed (ViewId.ofKey j) (x.rights.inter (rightsOf rights))))
      ∧ UnchangedBut (fun x => x.isNotice ∨ (∃ j, x = .view j) ∨ x = .response i) s t)

/-- R39 and R37: DROP VIEW voids the view and all its descendants; the holders of the descendants are
told with PARENT_VOIDED in the order of the walk, and the caller is not. -/
def Obligations.DropViewVoidsSubtree : Prop :=
  ∀ (i : PortId) (selector : Byte) (s : State) (k : Nat), (s.port i).state = .idle →
    k = ViewId.key ⟨s.caller i, selector.toNat⟩ →
    (∀ code, firstFailure (dropChecks i selector s) = some code →
      Refused (.dropView i selector) s i code)
    ∧ (firstFailure (dropChecks i selector s) = none →
      ∃ t, exec (.dropView i selector) s = .next t ∧ t.answered i .ok []
        ∧ (∀ j, Table.at? t.dir.views j
            = if j ∈ subtree s.dir.views k then none else Table.at? s.dir.views j)
        ∧ Posted s t ((subtree s.dir.views k).tail.map fun j =>
            Notice.viewVoided (ViewId.ofKey j) .parentVoided)
        ∧ UnchangedBut (fun x => x.isNotice ∨ (∃ j, x = .view j) ∨ x = .response i) s t)

/-- R40: DESCRIBE VIEW answers the fields of the view and of its window, the lifetime to the holder of
the root view and to P alone, and changes nothing. The order and the width of the fields are those of
R175. -/
def Obligations.DescribeViewAnswers : Prop :=
  ∀ (i : PortId) (selector : Byte) (s : State), (s.port i).state = .idle →
    (∀ code, firstFailure (viewChecks s (s.caller i) selector) = some code →
      Refused (.describeView i selector) s i code)
    ∧ ∀ v w, firstFailure (viewChecks s (s.caller i) selector) = none →
      s.viewAt (s.caller i) selector = some v → s.window? v.window = some w →
      ∃ t, exec (.describeView i selector) s = .next t
        ∧ t.answered i .ok
            ([w.state.toByte, w.cls.toByte, byteOf w.unit, if w.bank1.isSome then 2#8 else 1#8,
              byteOf w.live.toNat]
              ++ [byteOf (w.bank0.limit / 65536), byteOf (w.bank0.limit / 256), byteOf w.bank0.limit]
              ++ (match w.bank1 with
                  | some b => [byteOf (b.limit / 65536), byteOf (b.limit / 256), byteOf b.limit]
                  | none => [0#8, 0#8, 0#8])
              ++ [v.rights.toByte, byteOf v.depth, flagByte v.root, flagByte w.damaged]
              ++ (if v.root = true ∨ s.caller i = .payment then
                    [byteOf (w.lifetime.getD 0 / 256), byteOf (w.lifetime.getD 0)]
                  else [0#8, 0#8]))
        ∧ UnchangedBut (fun x => x = .response i) s t

/-! ### Application slots -/

/-- R134 and R136: SELECT APP and OPEN SLOT, which the P-port and the N-port do not know (R131). A change
of the acting slot zero-fills the A-port's staging buffer and clears its mark; the slot that acts already
leaves both; a slot above 31 is BAD_ARG. OPEN SLOT makes its checks in order, and where all pass the
CLOSED slot becomes OPEN. -/
def Obligations.SlotsSelectedAndOpened : Prop :=
  (∀ (slot : Byte) (s : State),
    (∀ i, i ≠ .aPort → Refused (.selectApp i slot) s i .unknown)
    ∧ ((s.port .aPort).state = .idle →
      (31 < slot.toNat → Refused (.selectApp .aPort slot) s .aPort .badArg)
      ∧ (slot.toNat = s.ports.acting.val →
        ∃ t, exec (.selectApp .aPort slot) s = .next t ∧ t.answered .aPort .ok []
          ∧ UnchangedBut (fun x => x = .response .aPort) s t)
      ∧ (slot.toNat ≤ 31 → slot.toNat ≠ s.ports.acting.val →
        ∃ t, exec (.selectApp .aPort slot) s = .next t ∧ t.answered .aPort .ok []
          ∧ t.ports.acting.val = slot.toNat ∧ (∀ c, t.column .aPort c = 0#8)
          ∧ (t.port .aPort).mark = false
          ∧ UnchangedBut (fun x => x = .actingSlot ∨ (∃ c, x = .stagingColumn .aPort c)
              ∨ x = .guardedMark .aPort ∨ x = .response .aPort) s t)))
  ∧ (∀ (n : Byte) (s : State),
    (∀ i, i ≠ .aPort → Refused (.openSlot i n) s i .unknown)
    ∧ ((s.port .aPort).state = .idle →
      (∀ code, firstFailure (openSlotChecks n s) = some code →
        Refused (.openSlot .aPort n) s .aPort code)
      ∧ (firstFailure (openSlotChecks n s) = none →
        s.slot n.toNat = .closed
        ∧ ∃ t, exec (.openSlot .aPort n) s = .next t ∧ t.answered .aPort .ok []
          ∧ t.slot n.toNat = .opened
          ∧ UnchangedBut (fun x => x = .slot n.toNat ∨ x = .response .aPort) s t)))

/-- R137, R138 and R129: CLOSE SLOT. The checks in their order; where all pass, the slot's views are
voided with their descendants, its LIVE windows begin retirement in ascending order of index, its
waiting moves leave with MOVE_DONE ABORTED and a running one takes the close mark, and the slot becomes
CLOSING, or CLOSED with SLOT_CLOSED where it owns no window that is not FREE. That a swap pending on a
window that begins retirement is dropped is the model's reading (assumption 25). -/
def Obligations.CloseSlotTearsDown : Prop :=
  ∀ (n : Byte) (s : State) (h : Holder), h = .app (Fin.ofNat 32 n.toNat) →
    (∀ i, i ≠ .aPort → Refused (.closeSlot i n) s i .unknown)
    ∧ ((s.port .aPort).state = .idle →
      (∀ code, firstFailure (closeSlotChecks n s) = some code →
        Refused (.closeSlot .aPort n) s .aPort code)
      ∧ (GrantTrees s → ViewsAnchored s → Table.rising s.dir.windows = true →
        firstFailure (closeSlotChecks n s) = none →
        ∃ t, exec (.closeSlot .aPort n) s = .next t
          ∧ t.answered .aPort .ok [if s.ownsWindow h then 0x01#8 else 0x00#8]
          ∧ (∀ j, Table.at? t.dir.views j
              = if ([1, 2, 3, 4, 5, 6, 7].any fun m =>
                    decide (j ∈ subtree s.dir.views (ViewId.key ⟨h, m⟩))) = true then none
                else Table.at? s.dir.views j)
          ∧ (∀ k, t.window? k
              = (s.window? k).map fun w =>
                  if w.isLive = true ∧ w.owner = h then w.retired .slotClosed else w)
          ∧ t.retire.queue
              = s.retire.queue
                  ++ windowsWhere s.dir.windows fun w =>
                      w.isLive && decide (w.owner = h) && w.quiet
          ∧ t.move.queue
              = ((s.move.queue.filter fun r => r.running || decide (r.requester ≠ h)).map fun r =>
                  if r.requester = h then { r with closeMark := true } else r)
          ∧ t.slot n.toNat = (if s.ownsWindow h then .closing else .closed)
          ∧ Posted s t
              (([1, 2, 3, 4, 5, 6, 7].flatMap fun m =>
                  ((subtree s.dir.views (ViewId.key ⟨h, m⟩)).filter fun j =>
                    decide ((ViewId.ofKey j).holder ≠ h)).map fun j =>
                      Notice.viewVoided (ViewId.ofKey j) .parentVoided)
                ++ ((s.move.queue.filter fun r => !r.running && decide (r.requester = h)).map
                      fun r => Notice.moveDone h r.reference .aborted 0 0)
                ++ (if s.ownsWindow h then [] else [Notice.slotClosed n.toNat]))
          ∧ UnchangedBut (fun x => x.isNotice ∨ (∃ j, x = .view j) ∨ (∃ k, x = .window k)
              ∨ x = .retireQueue ∨ x = .moveQueue ∨ x = .slot n.toNat
              ∨ x = .response .aPort) s t))

/-! ### Policy and tamper -/

/-- R171, R172 and R173: SET POOLS, SET QUOTA, SET LINE and LOCK POLICY. The checks in their order;
where all pass, the values named take the values given, or the phase becomes RUNNING, from which on P and
N are active. -/
def Obligations.PolicySetAndLocked : Prop :=
  ((∀ (i : PortId) (nReserve pReserve : BitVec 16) (s : State) (outside : Bool),
    (s.port i).state = .idle →
    outside = (!([0, 128, 256, 512].contains nReserve.toNat)
      || !([0, 128, 256, 512, 1024].contains pReserve.toNat)) →
    (∀ code, firstFailure (policyChecks i outside s) = some code →
      Refused (.setPools i nReserve pReserve) s i code)
    ∧ (firstFailure (policyChecks i outside s) = none →
      ∃ t, exec (.setPools i nReserve pReserve) s = .next t ∧ t.answered i .ok []
        ∧ t.policy.nReserve = nReserve.toNat ∧ t.policy.pReserve = pReserve.toNat
        ∧ UnchangedBut (fun x => x = .reserves ∨ x = .response i) s t))
  ∧ (∀ (i : PortId) (cls windows : Byte) (pages : BitVec 16) (s : State) (outside : Bool)
      (named : Holder → Bool), (s.port i).state = .idle →
    outside = (!([0x00#8, 0x01#8, 0x20#8, 0x21#8].contains cls) || decide (2048 < pages.toNat)) →
    (named = fun h => (decide (cls = 0x00#8) && decide (h = .payment))
      || (decide (cls = 0x01#8) && decide (h = .radio))
      || (decide (cls = 0x20#8) && decide (h = .app 0))
      || (decide (cls = 0x21#8) && decide (h ≠ .app 0) && h.isA)) →
    (∀ code, firstFailure (policyChecks i outside s) = some code →
      Refused (.setQuota i cls windows pages) s i code)
    ∧ (firstFailure (policyChecks i outside s) = none →
      ∃ t, exec (.setQuota i cls windows pages) s = .next t ∧ t.answered i .ok []
        ∧ (∀ h, named h = true → t.policy.quota h = ⟨windows.toNat, pages.toNat⟩)
        ∧ UnchangedBut (fun x => (∃ h, named h = true ∧ x = .quota h) ∨ x = .response i) s t))
  ∧ ∀ (i : PortId) (line role mode : Byte) (s : State) (outside : Bool),
    (s.port i).state = .idle →
    outside = (decide (7 < line.toNat) || !([0x00#8, 0x01#8, 0x02#8].contains role)
      || !([0x00#8, 0x01#8, 0x02#8].contains mode)) →
    (∀ code, firstFailure (policyChecks i outside s) = some code →
      Refused (.setLine i line role mode) s i code)
    ∧ (firstFailure (policyChecks i outside s) = none →
      ∃ t, exec (.setLine i line role mode) s = .next t ∧ t.answered i .ok []
        ∧ t.policy.line line.toNat
            = ⟨if role = 0x00#8 then .unused else if role = 0x01#8 then .bindable else .tamper,
               if mode = 0x00#8 then .rising else if mode = 0x01#8 then .falling else .either⟩
        ∧ UnchangedBut (fun x => x = .line line.toNat ∨ x = .response i) s t))
  ∧ (∀ (i : PortId) (s : State), (s.port i).state = .idle →
    (∀ code, firstFailure (policyChecks i false s) = some code → Refused (.lockPolicy i) s i code)
    ∧ (firstFailure (policyChecks i false s) = none →
      i = .pPort ∧ ∃ t, exec (.lockPolicy i) s = .next t ∧ t.answered i .ok []
        ∧ t.policy.phase = .running ∧ t.active .payment = true ∧ t.active .radio = true
        ∧ UnchangedBut (fun x => x = .phase ∨ x = .response i) s t))

/-- R153: CLEAR TAMPER. The busy rule first, then the checks in their order; where all pass, the latch
becomes clear, whether it was set or not, and nothing else changes and no notice is posted. -/
def Obligations.ClearTamperClears : Prop :=
  ∀ (i : PortId) (s : State),
    ((s.port i).state = .notReady → Refused (.clearTamper i) s i .notReady)
    ∧ ((s.port i).state = .executing ∨ (s.port i).state = .resetting →
        Refused (.clearTamper i) s i .busy)
    ∧ ((s.port i).state = .idle →
      (∀ code, firstFailure (clearTamperChecks i s) = some code → Refused (.clearTamper i) s i code)
      ∧ (firstFailure (clearTamperChecks i s) = none →
        ∃ t, exec (.clearTamper i) s = .next t ∧ t.answered i .ok []
          ∧ t.dir.tamper = false
          ∧ UnchangedBut (fun x => x = .tamperLatch ∨ x = .response i) s t))

/-- R144 and R145: an edge makes the line's new level its previous level; while RUNNING, a qualifying
edge on a BINDABLE or TAMPER line delivers one line event, behind those that wait. That the events of all
lines wait in one list is the model's reading (assumption 11). -/
def Obligations.LineEdgeDelivers : Prop :=
  ∀ (line : Fin 8) (level : Bool) (s : State) (c : LineConfig), s.events.level line.val ≠ level →
    c = s.policy.line line.val →
    ∃ t, exec (.lineEdge line level) s = .next t ∧ t.events.level line.val = level
      ∧ t.events.lineEvents
          = s.events.lineEvents
              ++ (if s.policy.phase = .running ∧ (c.role = .bindable ∨ c.role = .tamper)
                    ∧ (c.mode = .either ∨ (c.mode = .rising ∧ level = true)
                        ∨ (c.mode = .falling ∧ level = false))
                  then [⟨line.val, c.role⟩] else [])
      ∧ UnchangedBut (fun x => x = .lineLevel line.val ∨ x = .lineEvents) s t

/-- R146: a line event of a BINDABLE line. Every LIVE window bound to the line acts by its own action,
in ascending order of index: RETIRE begins its retirement with cause LINE, SWAP exchanges the banks of
a quiet window with SWAP_DONE and leaves swap pending on one that is not. Every other window is passed
over. That the events of all lines wait in one list is the model's reading (assumption 11). -/
def Obligations.LineEventActs : Prop :=
  ∀ (line : Fin 8) (s : State) (before after : List LineEvent),
    Table.rising s.dir.windows = true →
    s.events.lineEvents = before ++ ⟨line.val, .bindable⟩ :: after →
    (∀ e ∈ before, e.line ≠ line.val) →
    ∃ t, exec (.lineEvent line) s = .next t
      ∧ t.events.lineEvents = before ++ after
      ∧ (∀ k, t.window? k
          = (s.window? k).map fun w =>
              if w.isLive = true ∧ w.binding = some ⟨line.val, .retire⟩ then w.retired .line
              else if w.isLive = true ∧ w.binding = some ⟨line.val, .swap⟩ then
                if w.quiet then { w with live := w.live.other, swapPending := none }
                else { w with swapPending := w.swapPending.or (some .line) }
              else w)
      ∧ t.retire.queue
          = s.retire.queue
              ++ windowsWhere s.dir.windows fun w =>
                  w.isLive && decide (w.binding = some ⟨line.val, .retire⟩) && w.quiet
      ∧ Posted s t
          ((windowsWhere s.dir.windows fun w =>
              w.isLive && decide (w.binding = some ⟨line.val, .swap⟩) && w.quiet).flatMap fun k =>
            ((s.window? k).map fun w =>
              exchangeNotices s k { w with live := w.live.other, swapPending := none } .line).getD [])
      ∧ UnchangedBut (fun x => x.isNotice ∨ (∃ k, x = .window k) ∨ x = .retireQueue
          ∨ x = .lineEvents) s t

/-- R151: a line event of a TAMPER line sets the latch, begins retirement with cause TAMPER on every
LIVE GUARDED window in ascending order of index, and posts TAMPER to P and then to N with the line and
the number of windows reached. That the events of all lines wait in one list is the model's reading
(assumption 11). -/
def Obligations.TamperEventActs : Prop :=
  ∀ (line : Fin 8) (s : State) (before after : List LineEvent) (reached : List Nat),
    Table.rising s.dir.windows = true →
    s.events.lineEvents = before ++ ⟨line.val, .tamper⟩ :: after →
    (∀ e ∈ before, e.line ≠ line.val) →
    reached = windowsWhere s.dir.windows (fun w => w.isLive && decide (w.cls = .guarded)) →
    ∃ t, exec (.tamperLineEvent line) s = .next t
      ∧ t.dir.tamper = true
      ∧ t.events.lineEvents = before ++ after
      ∧ (∀ k, t.window? k
          = (s.window? k).map fun w =>
              if w.isLive = true ∧ w.cls = .guarded then w.retired .tamper else w)
      ∧ t.retire.queue
          = s.retire.queue
              ++ reached.filter (fun k => (s.window? k).any Window.quiet)
      ∧ Posted s t
          [⟨.tamper, .payment, 0, .tampered, byteOf line.val, 0#8, 0#8, 0#8,
              BitVec.ofNat 32 reached.length⟩,
           ⟨.tamper, .radio, 0, .tampered, byteOf line.val, 0#8, 0#8, 0#8,
              BitVec.ofNat 32 reached.length⟩]
      ∧ UnchangedBut (fun x => x.isNotice ∨ (∃ k, x = .window k) ∨ x = .retireQueue
          ∨ x = .lineEvents ∨ x = .tamperLatch) s t

/-- R17, R148 and R149: the divider's expiry sends one tick; the taking of a tick lowers every lifetime
of a LIVE window by 1, and one lowered from 1 becomes absent and the window begins retirement with cause
EXPIRED, the quiet ones joining the Retire Queue in ascending order of index. The row LIFETIME_EXPIRY is
the taking of the tick that ends a given window's lifetime (assumption 10); the divider is seen only
restarted (assumption 15). -/
def Obligations.TicksLowerLifetimes : Prop :=
  (∀ s : State, ∃ t, exec .tickEmit s = .next t ∧ t.events.ticks = s.events.ticks + 1
      ∧ t.events.divider = 0 ∧ UnchangedBut (fun x => x = .ticks ∨ x = .divider) s t)
  ∧ ∀ s : State, WindowsCoherent s → Table.rising s.dir.windows = true → s.events.ticks ≠ 0 →
    ∃ t, exec .tick s = .next t ∧ t.events.ticks = s.events.ticks - 1
      ∧ (∀ k, t.window? k
          = (s.window? k).map fun w =>
              if w.isLive = true ∧ w.lifetime = some 1 then
                ({ w with lifetime := none } : Window).retired .expired
              else if w.isLive = true then { w with lifetime := w.lifetime.map (· - 1) }
              else w)
      ∧ t.retire.queue
          = s.retire.queue
              ++ windowsWhere s.dir.windows fun w =>
                  w.isLive && decide (w.lifetime = some 1) && w.quiet
      ∧ (∀ k w, s.window? k = some w → w.isLive = true → w.lifetime = some 1 →
          exec (.lifetimeExpiry k) s = .next t)
      ∧ UnchangedBut (fun x => (∃ k, x = .window k) ∨ x = .retireQueue ∨ x = .ticks) s t

/-! ### The Move Engine -/

/-- R118, R119 and R120: the checks of MOVE in their order, the first that fails giving the result with
nothing changed; a MOVE that passes them joins the tail of the Move Queue with progress 0 and its marks
clear; the idle engine takes the head, marks it running and asks for the start check. That the corrected
word count is 0 where no move has run is the model's choice (assumption 22). -/
def Obligations.MoveQueuedAndTaken : Prop :=
  (∀ (i : PortId) (a : MoveParams) (s : State) (code : ResultCode), (s.port i).state = .idle →
    firstFailure (moveChecks i a s) = some code → Refused (.move i a) s i code)
  ∧ ((∀ (i : PortId) (a : MoveParams) (s : State) (m : MoveMode), (s.port i).state = .idle →
    firstFailure (moveChecks i a s) = none → MoveMode.ofBytes? a.mode a.fillUnit = some m →
    ∃ t, exec (.move i a) s = .next t ∧ t.answered i .ok []
      ∧ t.move.queue
          = s.move.queue ++
              [{ requester := s.caller i
                 reference := a.reference
                 srcSelector := a.srcSelector.toNat
                 srcBank := bankWord a.srcBank
                 srcOffset := a.srcOffset.toNat
                 dstSelector := a.dstSelector.toNat
                 dstBank := bankWord a.dstBank
                 dstOffset := a.dstOffset.toNat
                 count := a.count.toNat
                 mode := m
                 progress := 0
                 running := false
                 resolved := none
                 resetMark := false
                 closeMark := false }]
      ∧ UnchangedBut (fun x => x = .moveQueue ∨ x = .response i) s t)
  ∧ ∀ (s : State) (r : MoveRequest) (rest : List MoveRequest), s.move.state = .idle →
    s.move.queue = r :: rest →
    ∃ t, exec .moveTakeHead s = .next t
      ∧ t.move.queue = { r with running := true } :: rest ∧ t.move.state = .startCheck
      ∧ t.move.corrected = 0
      ∧ UnchangedBut (fun x => x = .moveQueue ∨ x = .moveState ∨ x = .moveCorrected) s t)

/-- R121 and R128: the start check. A check that fails ends the move with its code; a set reset mark
ends it after the other checks, with no MOVE_DONE (R127); otherwise the resolved record is filled, both
windows are pinned, and the engine asks for the fill pattern in FILL and for the first chunk
otherwise. A start failure carries 0 bytes and count 0. That the failing check is itself the end event is
assumption 9, and that the end clears the corrected word count is assumption 22. -/
def Obligations.StartCheckStartsOrEnds : Prop :=
  ∀ (s : State) (r : MoveRequest) (rest : List MoveRequest), s.move.state = .startCheck →
    s.move.queue = r :: rest → r.resolved = none →
    (∀ code, firstFailure (startChecks s r) = some code →
      ∃ t, exec .startCheck s = .next t ∧ MoveEnded s t r code false
        ∧ (MovesCoherent s → Posted s t
            (if r.resetMark then [] else [Notice.moveDone r.requester r.reference code 0 0])))
    ∧ (firstFailure (startChecks s r) = none → r.resetMark = true →
      ∃ t, exec .startCheck s = .next t ∧ MoveEnded s t r .aborted false ∧ Posted s t [])
    ∧ ∀ sv dv sw dw, firstFailure (startChecks s r) = none → r.resetMark = false →
      s.view? ⟨r.requester, r.srcSelector⟩ = some sv → s.window? sv.window = some sw →
      s.view? ⟨r.requester, r.dstSelector⟩ = some dv → s.window? dv.window = some dw →
      ∃ t, exec .startCheck s = .next t
        ∧ t.move.queue
            = { r with resolved :=
                (some ⟨sv.window, if r.srcBank = .live then sw.live else sw.live.other,
                  dv.window, if r.dstBank = .live then dw.live else dw.live.other⟩) } :: rest
        ∧ t.window? sv.window = some { sw with pinned := true }
        ∧ t.window? dv.window = some { dw with pinned := true }
        ∧ t.move.state
            = (match r.mode with
               | .fill _ => .pattern
               | .copy => .chunkGrant
               | .descend => .chunkGrant)
        ∧ UnchangedBut (fun x => x = .window sv.window ∨ x = .window dv.window ∨ x = .moveQueue
            ∨ x = .moveState) s t

/-- R124 and R126: the fill-pattern read puts the fill unit's bytes into the store, corrected words
restored and counted, and asks for the check of the first chunk; an uncorrectable word leaves the store
and takes the engine to the move's end with DATA_ERROR. That the store is then left (assumption 21) and
that the corrected words of a read that fails are counted too (assumption 13) are the model's readings;
`flips` is nature's (assumption 3). -/
def Obligations.PatternReadFillsStore : Prop :=
  ∀ (flips : List BitFlip) (s : State) (r : MoveRequest) (rest : List MoveRequest) (x : Resolved)
      (unit : Nat) (w : Window) (b : Bank) (a : Nat) (m : Memory),
    s.nextGrant = some .moveEngine → s.move.state = .pattern → s.move.queue = r :: rest →
    r.resolved = some x → r.mode = .fill unit → s.window? x.srcWindow = some w →
    w.bank? x.srcBank = some b → a = b.firstPage * 256 + r.srcOffset → a + unit ≤ 524288 →
    m = s.xm.disturb flips →
    ∃ t, exec (.fillPatternRead flips) s = .next t ∧ t.xm = m ∧ t.lastGranted = .moveEngine
      ∧ t.move.corrected = s.move.corrected + m.countCorrected (touchedWords a unit)
      ∧ (m.countUncorrectable (touchedWords a unit) = 0 →
          t.move.state = .chunkCheck
            ∧ ∀ j, Table.value 0#8 t.move.pattern j
                = if j < unit then m.delivered (a + j) else Table.value 0#8 s.move.pattern j)
      ∧ (m.countUncorrectable (touchedWords a unit) ≠ 0 →
          t.move.state = .moveEnd true
            ∧ ∀ j, Table.value 0#8 t.move.pattern j = Table.value 0#8 s.move.pattern j)
      ∧ UnchangedBut (fun y => y.inMemory ∨ (∃ j, y = .patternByte j) ∨ y = .moveState
          ∨ y = .moveCorrected ∨ y = .lastGranted) s t

/-- R125: the chunk check lets the chunk be requested where everything it confirms holds, and otherwise
ends the move with ABORTED (R127). That the failing check is itself the end event is assumption 9, and
that the end clears the corrected word count is assumption 22. -/
def Obligations.ChunkCheckConfirms : Prop :=
  ∀ (s : State) (r : MoveRequest) (rest : List MoveRequest) (x : Resolved),
    s.move.state = .chunkCheck → s.move.queue = r :: rest → r.resolved = some x →
    (chunkCheckFails s r x = true →
      ∃ t, exec .chunkCheck s = .next t ∧ MoveEnded s t r .aborted false)
    ∧ (chunkCheckFails s r x = false →
      ∃ t, exec .chunkCheck s = .next t ∧ t.move.state = .chunkGrant
        ∧ UnchangedBut (fun y => y = .moveState) s t)

/-- R123 and R126: a COPY or DESCEND chunk of up to 64 bytes, ascending or descending. With no
uncorrectable source word the destination takes the source bytes, progress rises by the chunk's length,
and the last chunk takes the engine to the move's end; an uncorrectable source word leaves the
destination and takes it there with DATA_ERROR. Every merged destination word, and every source word
delivered corrected, is counted; that the latter holds of a chunk that fails too is the model's reading
(assumption 13), and `flips` is nature's (assumption 3). -/
def Obligations.CopyChunkMovesBytes : Prop :=
  ∀ (flips : List BitFlip) (s : State) (r : MoveRequest) (rest : List MoveRequest) (x : Resolved)
      (sw dw : Window) (sb db : Bank) (start n src dst : Nat) (m : Memory),
    s.nextGrant = some .moveEngine → s.move.state = .chunkGrant → s.move.queue = r :: rest →
    r.resolved = some x →
    n = min 64 (r.count - r.progress) →
    (r.mode = .copy ∧ start = r.progress) ∨ (r.mode = .descend ∧ start = r.count - r.progress - n) →
    s.window? x.srcWindow = some sw → sw.bank? x.srcBank = some sb →
    s.window? x.dstWindow = some dw → dw.bank? x.dstBank = some db →
    src = sb.firstPage * 256 + r.srcOffset + start → src + n ≤ 524288 →
    dst = db.firstPage * 256 + r.dstOffset + start → dst + n ≤ 524288 →
    m = s.xm.disturb flips →
    (m.countUncorrectable (touchedWords src n) = 0 →
      ∃ t, exec (.moveChunkGrant flips) s = .next t
        ∧ Written m t.xm dst ((List.range n).map fun j => m.delivered (src + j))
        ∧ t.move.queue = { r with progress := r.progress + n } :: rest
        ∧ t.move.state = (if r.progress + n = r.count then .moveEnd false else .chunkCheck)
        ∧ t.move.corrected
            = s.move.corrected + m.countCorrected (touchedWords src n)
                + m.countCorrected (mergedWords dst n) + m.countUncorrectable (mergedWords dst n)
        ∧ t.lastGranted = .moveEngine
        ∧ UnchangedBut (fun y => y.inMemory ∨ y = .moveQueue ∨ y = .moveState
            ∨ y = .moveCorrected ∨ y = .lastGranted) s t)
    ∧ (m.countUncorrectable (touchedWords src n) ≠ 0 →
      ∃ t, exec (.moveChunkGrant flips) s = .next t ∧ t.xm = m
        ∧ t.move.state = .moveEnd true
        ∧ t.move.corrected = s.move.corrected + m.countCorrected (touchedWords src n)
        ∧ t.lastGranted = .moveEngine
        ∧ UnchangedBut (fun y => y.inMemory ∨ y = .moveState ∨ y = .moveCorrected
            ∨ y = .lastGranted) s t)

/-- R123 and R126: a FILL chunk writes pattern byte `j mod unit` at byte `j` of the move, reads no
source word, and raises the progress; `flips` is nature's (assumption 3). -/
def Obligations.FillChunkWritesPattern : Prop :=
  ∀ (flips : List BitFlip) (s : State) (r : MoveRequest) (rest : List MoveRequest) (x : Resolved)
      (unit : Nat) (dw : Window) (db : Bank) (n dst : Nat) (m : Memory),
    s.nextGrant = some .moveEngine → s.move.state = .chunkGrant → s.move.queue = r :: rest →
    r.resolved = some x → r.mode = .fill unit → n = min 64 (r.count - r.progress) →
    s.window? x.dstWindow = some dw → dw.bank? x.dstBank = some db →
    dst = db.firstPage * 256 + r.dstOffset + r.progress → dst + n ≤ 524288 →
    m = s.xm.disturb flips →
    ∃ t, exec (.moveChunkGrant flips) s = .next t
      ∧ Written m t.xm dst ((List.range n).map fun j =>
          Table.value 0#8 s.move.pattern ((r.progress + j) % unit))
      ∧ t.move.queue = { r with progress := r.progress + n } :: rest
      ∧ t.move.state = (if r.progress + n = r.count then .moveEnd false else .chunkCheck)
      ∧ t.move.corrected
          = s.move.corrected + m.countCorrected (mergedWords dst n)
              + m.countUncorrectable (mergedWords dst n)
      ∧ t.lastGranted = .moveEngine
      ∧ UnchangedBut (fun y => y.inMemory ∨ y = .moveQueue ∨ y = .moveState
          ∨ y = .moveCorrected ∨ y = .lastGranted) s t

/-- R127: the end event after a pattern read or a chunk, with OK after the last chunk and DATA_ERROR
after an uncorrectable source word. That the end clears the corrected word count is the model's choice
(assumption 22). -/
def Obligations.MoveEndReleases : Prop :=
  ∀ (s : State) (r : MoveRequest) (rest : List MoveRequest), s.move.queue = r :: rest →
    (s.move.state = .moveEnd false →
      ∃ t, exec .moveEnd s = .next t ∧ MoveEnded s t r .ok false)
    ∧ (s.move.state = .moveEnd true →
      ∃ t, exec .moveEnd s = .next t ∧ MoveEnded s t r .dataError true)

/-! ### The Retire Engine and the start of the part -/

/-- R87 and R88: the engine takes the head of the Retire Queue, which becomes CLEARING, and fills its
record; the sweep voids every VALID view of the window, tells each holder with cause RETIRED in the
order of the walk, records the root selector and the damaged flag, and requests the first page, which
becomes SCRUBBING (R89). The root selector is that of the window's one VALID root view, and 0 where no
root view of it is VALID, as in WINDOW_DAMAGED (R20). That this request is made inside the sweep event is the model's reading
(assumption 8), and that the record's root selector and damaged flag are 0 and clear before the sweep is
its choice (assumption 20). -/
def Obligations.RetireTakenAndSwept : Prop :=
  (∀ (s : State) (k : Nat), GrantTrees s →
    (∀ v x, v.inRange → s.view? v = some x → x.window = k → x.root = true →
        (∀ u y, u.inRange → s.view? u = some y → y.window = k → y.root = true → u = v) →
        rootSelector s.dir.views k = v.selector)
      ∧ ((∀ v x, v.inRange → s.view? v = some x → x.window = k → x.root = false) →
        rootSelector s.dir.views k = 0))
  ∧ (∀ (s : State) (k : Nat) (rest : List Nat) (w : Window) (cause : RetireCause),
    s.retire.state = .idle → s.retire.queue = k :: rest → s.window? k = some w →
    w.cause = some cause →
    ∃ t, exec .retireTakeHead s = .next t ∧ t.retire.queue = rest
      ∧ t.window? k = some { w with state := .clearing }
      ∧ t.retire.state = .sweeping ⟨k, w.owner, cause, 0, false, .zero, w.bank0.firstPage⟩
      ∧ UnchangedBut (fun x => x = .window k ∨ x = .retireQueue ∨ x = .retireState) s t)
  ∧ ∀ (s : State) (r : RetireRecord) (w : Window), s.retire.state = .sweeping r →
    s.window? r.window = some w → Table.rising s.dir.views = true →
    ∃ t, exec .sweep s = .next t
      ∧ (∀ j, Table.at? t.dir.views j
          = (Table.at? s.dir.views j).bind fun x => if x.window = r.window then none else some x)
      ∧ Posted s t ((windowWalk s.dir.views r.window).map fun j =>
          Notice.viewVoided (ViewId.ofKey j) .retired)
      ∧ t.retire.state
          = .scrubbing
              { r with rootSelector := rootSelector s.dir.views r.window, damaged := w.damaged }
              .requested
      ∧ t.page r.page = .scrubbing
      ∧ UnchangedBut (fun x => x.isNotice ∨ (∃ j, x = .view j) ∨ x = .page r.page
          ∨ x = .retireState) s t

/-- R89: the grant writes the page with zeros and clean words; the release makes it FREE, lowers the
owner's page charge, and requests the next page in its place, bank 0 before bank 1, or asks for the
freeing after the last, where the position staying at the last page is the model's choice (assumption
24). That the next request is made inside the release is the model's reading
(assumption 8). -/
def Obligations.PagesScrubbedInOrder : Prop :=
  (∀ (s : State) (r : RetireRecord), s.retire.state = .scrubbing r .requested →
    s.nextGrant = some .retireEngine → r.page < 2048 →
    ∃ t, exec .pageScrubGrant s = .next t ∧ Scrubbed s.xm t.xm r.page
      ∧ t.retire.state = .scrubbing r .scrubbed ∧ t.lastGranted = .retireEngine
      ∧ UnchangedBut (fun x => x.inMemory ∨ x = .retireState ∨ x = .lastGranted) s t)
  ∧ ∀ (s : State) (r : RetireRecord) (w : Window) (b : Bank) (next : Option (BankNo × Nat)),
    s.retire.state = .scrubbing r .scrubbed → s.window? r.window = some w →
    w.bank? r.bank = some b →
    next = (if r.page + 1 < b.firstPage + b.pageCount then some (r.bank, r.page + 1)
            else if r.bank = .zero then w.bank1.map fun b1 => (.one, b1.firstPage) else none) →
    ∃ t, exec .pageRelease s = .next t
      ∧ t.counter r.owner = ⟨(s.counter r.owner).windows, (s.counter r.owner).pages - 1⟩
      ∧ (next = none → t.page r.page = .free ∧ t.retire.state = .freeing r
          ∧ UnchangedBut (fun x => x = .page r.page ∨ x = .counter r.owner ∨ x = .retireState) s t)
      ∧ ∀ n p, next = some (n, p) → t.page p = .scrubbing ∧ (p ≠ r.page → t.page r.page = .free)
          ∧ t.retire.state = .scrubbing { r with bank := n, page := p } .requested
          ∧ UnchangedBut (fun x => x = .page r.page ∨ x = .page p ∨ x = .counter r.owner
              ∨ x = .retireState) s t

/-- R90 and R91: the freeing returns the entry to FREE, lowers the owner's window count, posts
RETIRE_DONE, and, where the owner is a CLOSING slot that owns no other window, makes the slot CLOSED and
posts SLOT_CLOSED after it. -/
def Obligations.FreeingEndsRetirement : Prop :=
  ∀ (s : State) (r : RetireRecord) (last : Option Nat), s.retire.state = .freeing r →
    last = (match r.owner with
      | .app slot =>
        if s.slot slot.val = .closing
            ∧ (s.dir.windows.any fun e => decide (e.1 ≠ r.window ∧ e.2.owner = r.owner)) = false
        then some slot.val else none
      | .payment => none
      | .radio => none) →
    ∃ t, exec .windowFreeing s = .next t
      ∧ t.window? r.window = none
      ∧ t.counter r.owner = ⟨(s.counter r.owner).windows - 1, (s.counter r.owner).pages⟩
      ∧ t.retire.state = .idle
      ∧ (∀ n, last = some n → t.slot n = .closed)
      ∧ Posted s t
          (⟨.retireDone, r.owner, r.rootSelector, .ok, r.cause.toByte, flagByte r.damaged, 0#8, 0#8,
              0#32⟩
            :: (match last with
                | some n => [⟨.slotClosed, .app 0, 0, .ok, byteOf n, 0#8, 0#8, 0#8, 0#32⟩]
                | none => []))
      ∧ UnchangedBut (fun x => x.isNotice ∨ x = .window r.window ∨ x = .counter r.owner
          ∨ x = .retireState ∨ ∃ n, last = some n ∧ x = .slot n) s t

/-- R169: the state that a device reset leaves in every block. That the line events, ticks, completions
and reports sent and not yet taken are discarded is the model's reading (assumption 12), as is that the
commands waiting outside the part stay where they are (assumption 19); that the restarted divider and the
corrected word count stand at 0 is its choice (assumptions 15 and 22). What exchange memory holds is
unknown, and nothing is said of it. -/
def Obligations.DeviceResetState : Prop :=
  ∀ (levels : BitVec 8) (flips : List BitFlip) (s : State),
    ∃ t, exec (.deviceReset levels flips) s = .next t ∧ t.pending = s.pending
      ∧ (∀ i, (t.port i).state = .notReady ∧ (∀ c, t.column i c = 0#8)
          ∧ (t.port i).mark = false ∧ (t.port i).notices = [] ∧ (t.port i).lost = false
          ∧ (t.port i).last = ⟨.ok, 0, 0, 0⟩ ∧ (t.port i).transfer = none
          ∧ (t.port i).completion = none)
      ∧ t.ports.acting = 0
      ∧ (∀ k, t.window? k = none) ∧ (∀ k, Table.at? t.dir.views k = none)
      ∧ (∀ n, t.slot n = .closed) ∧ t.dir.tamper = false
      ∧ (∀ p, t.page p = .scrubbing) ∧ (∀ h, t.counter h = ⟨0, 0⟩)
      ∧ t.lastGranted = .retireEngine ∧ (∀ r, t.requests r = false)
      ∧ t.move.queue = [] ∧ t.move.state = .idle ∧ t.move.corrected = 0
      ∧ (∀ j, Table.value 0#8 t.move.pattern j = 0#8)
      ∧ t.retire.queue = [] ∧ (∃ stage, t.retire.state = .startUp 0 stage)
      ∧ t.retire.endReport = false
      ∧ (∀ n < 8, t.events.level n = levels.getLsbD n) ∧ t.events.lineEvents = []
      ∧ t.events.divider = 0 ∧ t.events.ticks = 0
      ∧ t.policy.phase = .starting ∧ t.policy.nReserve = 0 ∧ t.policy.pReserve = 0
      ∧ t.policy.quota .payment = ⟨255, 2048⟩ ∧ t.policy.quota .radio = ⟨96, 1024⟩
      ∧ t.policy.quota (.app 0) = ⟨32, 512⟩
      ∧ (∀ slot : Fin 32, slot ≠ 0 → t.policy.quota (.app slot) = ⟨6, 64⟩)
      ∧ ∀ n, t.policy.line n = ⟨.unused, .rising⟩

/-- R170: the start-up scrub. Each page is granted, written with zeros and released to FREE, and the
next is requested; the release of page 2047 makes the engine IDLE and reports the end, on which the
phase becomes CONFIGURING and all three ports IDLE. That the first request after the reset has no row of
its own (assumption 7) and that each later one is made inside the release (assumption 8) are the model's
readings. -/
def Obligations.StartupScrubRuns : Prop :=
  (∀ (s : State) (page : Nat) (stage : ScrubStage), s.retire.state = .startUp page stage →
    (stage = .toRequest ∨ stage = .requested) → page < 2048 →
    (∀ r, r ≠ .retireEngine → s.requests r = false) →
    ∃ t, exec .startupScrubGrant s = .next t ∧ Scrubbed s.xm t.xm page
      ∧ t.retire.state = .startUp page .scrubbed ∧ t.lastGranted = .retireEngine
      ∧ UnchangedBut (fun x => x.inMemory ∨ x = .retireState ∨ x = .lastGranted) s t)
  ∧ (∀ (s : State) (page : Nat), s.retire.state = .startUp page .scrubbed → page < 2048 →
    ∃ t, exec .startupPageRelease s = .next t ∧ t.page page = .free
      ∧ (page < 2047 → t.retire.state = .startUp (page + 1) .requested
          ∧ t.retire.endReport = s.retire.endReport)
      ∧ (page = 2047 → t.retire.state = .idle ∧ t.retire.endReport = true)
      ∧ UnchangedBut (fun x => x = .page page ∨ x = .retireState ∨ x = .endReport) s t)
  ∧ ∀ s : State, s.retire.endReport = true →
    ∃ t, exec .scrubEnd s = .next t ∧ t.policy.phase = .configuring
      ∧ (∀ i, (t.port i).state = .idle) ∧ t.retire.endReport = false
      ∧ UnchangedBut (fun x => x = .phase ∨ (∃ i, x = .portState i) ∨ x = .endReport) s t

/-! ### Frames, both ways -/

/-- R131, R157, R158, R159 and R174. The frame of every command that passes the judgement is judged to be
that command, with every operand at every value, whatever bytes are clocked past it; any other frame
check is judged FRAME, and fewer bytes than the frame are judged to be no whole request. Every command
passes on the A-port; on the P-port and the N-port all pass but SELECT APP, OPEN SLOT and CLOSE SLOT,
which are UNKNOWN. A LOAD STAGING passes where its payload is as long as its count. That bytes clocked past
the frame leave its judgement as it is, is the model's reading (assumption 19). -/
def Obligations.FrameRoundTrip : Prop :=
  (∀ (c : Instr) (i : PortId) (code : Byte) (body past : List Byte), PassesFrame c i →
    c.request = some (i, code, body) → body.length < 65536 →
    Frame.judge i (Frame.ofRequest code body ++ past) = .taken c
      ∧ (∀ n < (Frame.ofRequest code body).length,
          Frame.judge i ((Frame.ofRequest code body).take n) = .incomplete)
      ∧ ∀ k1 k0 : Byte, [k1, k0] ≠ Frame.bytes2 (Frame.crc16 ((Frame.ofRequest code body).dropLast.dropLast)) →
          Frame.judge i ((Frame.ofRequest code body).dropLast.dropLast ++ [k1, k0]) = .frame)
  ∧ (∀ (c : Instr) (i : PortId) (code : Byte) (body : List Byte), c.request = some (i, code, body) →
    (∀ j column count payload, c = .loadStaging j column count payload →
      payload.length = count.toNat) →
    if i ≠ .aPort ∧ (code = 0x30#8 ∨ code = 0x31#8 ∨ code = 0x32#8) then
      Frame.commandOf i code.toNat body = .unknown
    else PassesFrame c i)

/-! ### What every step keeps -/

/-- R117 and R163: no notice queue and no Move Queue ever holds more than its places. -/
def Obligations.QueuesStayBounded : Prop :=
  ∀ s t : State, QueuesBounded s → step s = .next t → QueuesBounded t

/-- R99: exchange memory keeps its canonical form and its address range, and every table of the part keeps
its canonical form. -/
def Obligations.DataStaysCanonical : Prop :=
  (∀ s t : State, MemoryCanonical s → step s = .next t → MemoryCanonical t)
  ∧ (∀ s t : State, TablesCanonical s → step s = .next t → TablesCanonical t)

/-- R14: in either order of a tamper line event and an OPEN WINDOW, no GUARDED window is LIVE once the
latch is set. -/
def Obligations.LatchStaysShut : Prop :=
  ∀ s t : State, LatchShut s → step s = .next t → LatchShut t

/-- R110 and R112: no holder ever has more windows or more pages charged than its quota allows, and the
window count of a holder is always the number of windows it owns that are not FREE. -/
def Obligations.QuotasStayRespected : Prop :=
  (∀ s t : State, PhaseCoherent s ∧ QuotasRespected s → step s = .next t →
    PhaseCoherent t ∧ QuotasRespected t)
  ∧ ∀ s t : State, TablesCanonical s ∧ CountersHeld s → step s = .next t → CountersHeld t

/-- R23, R25, R26 and R33: the grant trees keep their shape, and no view ever carries a right that its
parent has lost; every root is held by its window's owner, and a LIVE window has exactly one root. -/
def Obligations.GrantTreesKept : Prop :=
  (∀ s t : State, GrantTrees s → step s = .next t → GrantTrees t)
  ∧ ∀ s t : State, GrantTrees s ∧ ViewsAnchored s ∧ RootsHeld s → step s = .next t → RootsHeld t

/-- R27, R28 and R88: no holder ever holds two views of one window, no A-holder ever holds a view of a
GUARDED window, and no view outlives the sweep of its window. -/
def Obligations.ViewsStayAnchored : Prop :=
  ∀ s t : State, ViewsAnchored s → step s = .next t → ViewsAnchored t

/-- R6, R10, R17, R19 and R67: swap pending, binding, cause, live bank and lifetime of every window stay
in step with its state and its banks. -/
def Obligations.WindowsStayCoherent : Prop :=
  ∀ s t : State, WindowsCoherent s → step s = .next t → WindowsCoherent t

/-- R7, R50, R51, R85, R103, R105, R117, R120, R121, R122 and R160: every piece of work in flight stays
accounted for, so that no grant ever leaves the banks of its window and no window is freed under a
transfer or a move. R102, R103, R104 and R170: every page stays FREE, SCRUBBING or ALLOCATED to the one
bank whose record names it, and a FREE page was last written by a scrub of itself. -/
def Obligations.WorkStaysAccounted : Prop :=
  (∀ s t : State, WorkAccounted s → step s = .next t → WorkAccounted t)
  ∧ ∀ s t : State, MemoryCanonical s ∧ WorkAccounted s ∧ PagesHeld s → step s = .next t →
    PagesHeld t

/-- R54 and R28: the guarded mark of the A-port is never set. -/
def Obligations.ApplicationsStayUnmarked : Prop :=
  ∀ s t : State, WorkAccounted s ∧ ViewsAnchored s ∧ ApplicationUnmarked s → step s = .next t →
    WorkAccounted t ∧ ViewsAnchored t ∧ ApplicationUnmarked t

/-- Every invariant above holds right after reset. -/
def Obligations.InvariantsHoldAtReset : Prop :=
  QueuesBounded State.reset ∧ MemoryCanonical State.reset ∧ TablesCanonical State.reset
    ∧ LatchShut State.reset ∧ PhaseCoherent State.reset ∧ QuotasRespected State.reset
    ∧ CountersHeld State.reset ∧ GrantTrees State.reset ∧ ViewsAnchored State.reset
    ∧ RootsHeld State.reset ∧ WindowsCoherent State.reset ∧ WorkAccounted State.reset
    ∧ PagesHeld State.reset ∧ ApplicationUnmarked State.reset
end

