-- ==== Sys2Proof/Laws/Tables.lean ====
section
/-! SUPPORT. What the operations on sparse tables do to each key, and that each keeps the canonical
form.
-/

namespace Sys2Proof

variable {α : Type}

/-! ### What a key holds -/

@[simp] theorem Table.at?_nil (k : Nat) : Table.at? ([] : Table α) k = none := rfl

theorem Table.at?_cons (j : Nat) (v : α) (t : Table α) (k : Nat) :
    Table.at? ((j, v) :: t) k = if j = k then some v else Table.at? t k := rfl

@[simp] theorem Table.at?_put_same (t : Table α) (k : Nat) (v : α) :
    Table.at? (Table.put t k v) k = some v := by
  induction t with
  | nil => simp [Table.put, Table.at?_cons]
  | cons e t ih =>
    obtain ⟨j, w⟩ := e
    simp only [Table.put]
    split
    · simp [Table.at?_cons]
    · split
      · simp [Table.at?_cons]
      · rename_i h; simp [Table.at?_cons, h, ih]

theorem Table.at?_put_other (t : Table α) {k j : Nat} (v : α) (h : k ≠ j) :
    Table.at? (Table.put t k v) j = Table.at? t j := by
  induction t with
  | nil => simp [Table.put, Table.at?_cons, h]
  | cons e t ih =>
    obtain ⟨i, w⟩ := e
    simp only [Table.put]
    split
    · simp [Table.at?_cons, h]
    · split
      · rename_i hi; subst hi; simp [Table.at?_cons, h]
      · simp [Table.at?_cons, ih]

theorem Table.at?_put (t : Table α) (k j : Nat) (v : α) :
    Table.at? (Table.put t k v) j = if k = j then some v else Table.at? t j := by
  split
  · rename_i h; subst h; simp
  · rename_i h; exact Table.at?_put_other t v h

/-- A table filtered by its keys. -/
theorem Table.at?_filter_key (t : Table α) (p : Nat → Bool) (k : Nat) :
    Table.at? (t.filter fun e => p e.1) k = if p k then Table.at? t k else none := by
  induction t with
  | nil => simp
  | cons e t ih =>
    obtain ⟨j, w⟩ := e
    by_cases hj : p j = true
    · rw [List.filter_cons_of_pos (by simpa using hj), Table.at?_cons, Table.at?_cons, ih]
      by_cases hk : j = k
      · subst hk; simp [hj]
      · simp [hk]
    · rw [List.filter_cons_of_neg (by simpa using hj), Table.at?_cons, ih]
      by_cases hk : j = k
      · subst hk; simp [hj]
      · simp [hk]

theorem Table.mem_of_at? {t : Table α} {k : Nat} {v : α} (h : Table.at? t k = some v) :
    (k, v) ∈ t := by
  induction t with
  | nil => cases h
  | cons e t ih =>
    obtain ⟨j, w⟩ := e
    rw [Table.at?_cons] at h
    split at h
    · rename_i hj
      subst hj
      cases h
      exact List.mem_cons_self ..
    · exact List.mem_cons_of_mem _ (ih h)

theorem Table.at?_remove (t : Table α) (k j : Nat) :
    Table.at? (Table.remove t k) j = if j = k then none else Table.at? t j := by
  have := Table.at?_filter_key t (fun i => i != k) j
  rw [Table.remove, this]
  by_cases h : j = k <;> simp [h]

theorem Table.at?_clearRun (t : Table α) (lo n j : Nat) :
    Table.at? (Table.clearRun t lo n) j = if lo ≤ j ∧ j < lo + n then none else Table.at? t j := by
  have := Table.at?_filter_key t (fun i => !(decide (lo ≤ i) && decide (i < lo + n))) j
  rw [Table.clearRun, this]
  by_cases h : lo ≤ j ∧ j < lo + n
  · simp [h]
  · rw [if_neg h]
    split
    · rfl
    · rename_i h'; simp at h'; exact absurd h' h

variable [DecidableEq α]

/-- After a store a key holds the value stored, and every other key what it held. -/
theorem Table.value_store (d : α) (t : Table α) (k j : Nat) (v : α) :
    Table.value d (Table.store d t k v) j = if j = k then v else Table.value d t j := by
  unfold Table.value Table.store
  by_cases hv : v = d
  · rw [if_pos hv, Table.at?_remove]
    by_cases hj : j = k <;> simp [hj, hv]
  · rw [if_neg hv, Table.at?_put]
    by_cases hj : j = k
    · subst hj; simp
    · rw [if_neg (Ne.symm hj), if_neg hj]

@[simp] theorem Table.value_store_same (d : α) (t : Table α) (k : Nat) (v : α) :
    Table.value d (Table.store d t k v) k = v := by simp [Table.value_store]

/-- A run of values written lies at the keys from the first on; every other key holds what it held. -/
theorem Table.value_writeRun (d : α) (vs : List α) (t : Table α) (k j : Nat) :
    Table.value d (Table.writeRun d t k vs) j
      = if k ≤ j ∧ j < k + vs.length then vs.getD (j - k) d else Table.value d t j := by
  induction vs generalizing t k with
  | nil => simp [Table.writeRun]
  | cons v vs ih =>
    simp only [Table.writeRun, ih, Table.value_store, List.length_cons]
    by_cases hjk : j = k
    · subst hjk; simp
    · by_cases h : k ≤ j ∧ j < k + (vs.length + 1)
      · have h1 : k + 1 ≤ j ∧ j < k + 1 + vs.length := by omega
        have h2 : j - k = (j - (k + 1)) + 1 := by omega
        rw [if_pos h1, if_pos h, h2]; rfl
      · have h1 : ¬(k + 1 ≤ j ∧ j < k + 1 + vs.length) := by omega
        rw [if_neg h1, if_neg h, if_neg hjk]

/-! ### The canonical form -/

omit [DecidableEq α] in
/-- Strictly rising keys, as the standard library says it. -/
theorem Table.rising_iff (t : Table α) :
    Table.rising t = true ↔ t.Pairwise fun a b => a.1 < b.1 := by
  induction t with
  | nil => simp [Table.rising]
  | cons e t ih =>
    cases t with
    | nil => simp [Table.rising]
    | cons f t =>
      rw [Table.rising, Bool.and_eq_true, ih, decide_eq_true_iff, List.pairwise_cons (a := e)]
      constructor
      · rintro ⟨h, hp⟩
        refine ⟨fun g hg => ?_, hp⟩
        rcases List.mem_cons.1 hg with rfl | hg
        · exact h
        · exact lt_trans h ((List.pairwise_cons.1 hp).1 g hg)
      · rintro ⟨h, hp⟩
        exact ⟨h f (List.mem_cons_self ..), hp⟩

omit [DecidableEq α] in
/-- In a table of rising keys an entry is what its key holds. -/
theorem Table.at?_of_mem {t : Table α} (h : Table.rising t = true) {e : Nat × α} (he : e ∈ t) :
    Table.at? t e.1 = some e.2 := by
  rw [Table.rising_iff] at h
  induction t with
  | nil => cases he
  | cons f t ih =>
    obtain ⟨j, w⟩ := f
    rw [Table.at?_cons]
    rcases List.mem_cons.1 he with rfl | he
    · simp
    · have := (List.pairwise_cons.1 h).1 e he
      rw [if_neg (by simp only at this; omega)]
      exact ih (List.pairwise_cons.1 h).2 he

omit [DecidableEq α] in
theorem Table.rising_filter (t : Table α) (p : Nat × α → Bool) (h : Table.rising t = true) :
    Table.rising (t.filter p) = true := by
  rw [Table.rising_iff] at *; exact h.filter p

omit [DecidableEq α] in
/-- The keys of a table after `put`. -/
theorem Table.mem_put {t : Table α} {k : Nat} {v : α} {e : Nat × α}
    (h : e ∈ Table.put t k v) : e = (k, v) ∨ e ∈ t := by
  induction t with
  | nil => simpa [Table.put] using h
  | cons f t ih =>
    obtain ⟨j, w⟩ := f
    simp only [Table.put] at h
    split at h
    · simpa using h
    · split at h
      · rcases List.mem_cons.1 h with h | h
        · exact .inl h
        · exact .inr (List.mem_cons_of_mem _ h)
      · rcases List.mem_cons.1 h with h | h
        · exact .inr (h ▸ List.mem_cons_self ..)
        · exact (ih h).imp id (List.mem_cons_of_mem _)

omit [DecidableEq α] in
theorem Table.rising_put (t : Table α) (k : Nat) (v : α) (h : Table.rising t = true) :
    Table.rising (Table.put t k v) = true := by
  rw [Table.rising_iff] at *
  induction t with
  | nil => simp [Table.put]
  | cons e t ih =>
    obtain ⟨j, w⟩ := e
    obtain ⟨hj, ht⟩ := List.pairwise_cons.1 h
    simp only [Table.put]
    split
    · rename_i hk
      refine List.pairwise_cons.2 ⟨fun e he => ?_, h⟩
      rcases List.mem_cons.1 he with rfl | he
      · exact hk
      · exact lt_trans hk (hj e he)
    · split
      · rename_i hk; subst hk; exact List.pairwise_cons.2 ⟨hj, ht⟩
      · rename_i h1 h2
        refine List.pairwise_cons.2 ⟨fun e he => ?_, ih ht⟩
        rcases Table.mem_put he with rfl | he
        · exact show j < k by omega
        · exact hj e he

theorem Table.wf_nil (d : α) : Table.wf d ([] : Table α) = true := rfl

theorem Table.wf_filter (d : α) (t : Table α) (p : Nat × α → Bool) (h : Table.wf d t = true) :
    Table.wf d (t.filter p) = true := by
  simp only [Table.wf, Bool.and_eq_true, List.all_eq_true] at *
  exact ⟨Table.rising_filter t p h.1, fun e he => h.2 e (List.mem_filter.1 he).1⟩

theorem Table.wf_remove (d : α) (t : Table α) (k : Nat) (h : Table.wf d t = true) :
    Table.wf d (Table.remove t k) = true := Table.wf_filter d t _ h

theorem Table.wf_clearRun (d : α) (t : Table α) (lo n : Nat) (h : Table.wf d t = true) :
    Table.wf d (Table.clearRun t lo n) = true := Table.wf_filter d t _ h

theorem Table.wf_store (d : α) (t : Table α) (k : Nat) (v : α) (h : Table.wf d t = true) :
    Table.wf d (Table.store d t k v) = true := by
  unfold Table.store
  split
  · exact Table.wf_remove d t k h
  · rename_i hv
    simp only [Table.wf, Bool.and_eq_true, List.all_eq_true] at *
    refine ⟨Table.rising_put t k v h.1, fun e he => ?_⟩
    rcases Table.mem_put he with rfl | he
    · simpa using hv
    · exact h.2 e he

theorem Table.wf_writeRun (d : α) (vs : List α) (t : Table α) (k : Nat) (h : Table.wf d t = true) :
    Table.wf d (Table.writeRun d t k vs) = true := by
  induction vs generalizing t k with
  | nil => exact h
  | cons v vs ih => exact ih _ _ (Table.wf_store d t k v h)

theorem Table.wf_fillRun (d : α) (t : Table α) (k n : Nat) (v : α) (h : Table.wf d t = true) :
    Table.wf d (Table.fillRun d t k n v) = true := Table.wf_writeRun d _ t k h

/-- The keys of a table after `store` and `writeRun`. -/
theorem Table.mem_store {d : α} {t : Table α} {k : Nat} {v : α} {e : Nat × α}
    (h : e ∈ Table.store d t k v) : e = (k, v) ∨ e ∈ t := by
  unfold Table.store at h
  split at h
  · exact .inr (List.mem_filter.1 h).1
  · exact Table.mem_put h

theorem Table.mem_writeRun {d : α} {vs : List α} {t : Table α} {k : Nat} {e : Nat × α}
    (h : e ∈ Table.writeRun d t k vs) : (k ≤ e.1 ∧ e.1 < k + vs.length) ∨ e ∈ t := by
  induction vs generalizing t k with
  | nil => exact .inr h
  | cons v vs ih =>
    rcases ih h with h | h
    · exact .inl ⟨by omega, by simp; omega⟩
    · rcases Table.mem_store h with rfl | h
      · exact .inl ⟨le_refl _, by simp⟩
      · exact .inr h

end Sys2Proof
end

