-- ==== Sys2Proof/Laws/Memory.lean ====
section
/-! SUPPORT. What each operation on exchange memory leaves at each address and in each word, and that
each keeps the canonical form.
-/

namespace Sys2Proof.Machine

/-! ### The canonical form -/

theorem Memory.wf_iff (m : Memory) :
    m.wf = true ↔ Table.wf Memory.unlisted m.cells = true ∧ Table.wf [] m.errors = true
      ∧ (∀ c ∈ m.cells, c.1 < Config.memoryBytes)
      ∧ ∀ e ∈ m.errors, e.1 < Config.wordTotal ∧ e.2.Pairwise (· < ·) := by
  simp [Memory.wf, and_assoc]

theorem mem_toggleBit {b c : Nat} {l : List Nat} (h : c ∈ toggleBit b l) : c = b ∨ c ∈ l := by
  induction l with
  | nil => simpa [toggleBit] using h
  | cons d l ih =>
    simp only [toggleBit] at h
    split at h
    · simpa using h
    · split at h
      · exact .inr (List.mem_cons_of_mem _ h)
      · rcases List.mem_cons.1 h with h | h
        · exact .inr (h ▸ List.mem_cons_self ..)
        · exact (ih h).imp id (List.mem_cons_of_mem _)

theorem toggleBit_rising {b : Nat} {l : List Nat} (h : l.Pairwise (· < ·)) :
    (toggleBit b l).Pairwise (· < ·) := by
  induction l with
  | nil => simp [toggleBit]
  | cons c l ih =>
    obtain ⟨hc, hl⟩ := List.pairwise_cons.1 h
    simp only [toggleBit]
    split
    · rename_i hb
      refine List.pairwise_cons.2 ⟨fun e he => ?_, h⟩
      rcases List.mem_cons.1 he with rfl | he
      · exact hb
      · exact lt_trans hb (hc e he)
    · split
      · exact hl
      · refine List.pairwise_cons.2 ⟨fun e he => ?_, ih hl⟩
        rcases mem_toggleBit he with rfl | he
        · omega
        · exact hc e he

theorem Memory.disturbed_rising {m : Memory} (h : m.wf = true) (k : Nat) :
    (m.disturbed k).Pairwise (· < ·) := by
  have he := ((Memory.wf_iff m).1 h).2.2.2
  have key : ∀ t : Table (List Nat), (∀ e ∈ t, e.2.Pairwise (· < ·)) →
      (Table.value [] t k).Pairwise (· < ·) := by
    intro t
    induction t with
    | nil => intro _; exact List.Pairwise.nil
    | cons e t ih =>
      intro ht
      obtain ⟨j, l⟩ := e
      unfold Table.value
      rw [Table.at?_cons]
      split
      · exact ht (j, l) (List.mem_cons_self ..)
      · exact ih fun e he => ht e (List.mem_cons_of_mem _ he)
  exact key m.errors fun e h => (he e h).2

/-- One disturbed bit keeps the canonical form. -/
theorem Memory.disturbBit_wf {m : Memory} (f : BitFlip) (h : m.wf = true) :
    (m.disturbBit f).wf = true := by
  unfold Memory.disturbBit
  split
  · rename_i hf
    obtain ⟨hc, he, hca, hea⟩ := (Memory.wf_iff m).1 h
    refine (Memory.wf_iff _).2 ⟨?_, Table.wf_store _ _ _ _ he, ?_, ?_⟩
    · dsimp only; split
      · exact Table.wf_store _ _ _ _ hc
      · exact hc
    · dsimp only; intro c hcm
      split at hcm
      · rcases Table.mem_store hcm with rfl | hcm
        · simp only [Config.wordTotal, Config.memoryBytes] at *; omega
        · exact hca c hcm
      · exact hca c hcm
    · intro e hem
      rcases Table.mem_store hem with rfl | hem
      · exact ⟨hf, toggleBit_rising (Memory.disturbed_rising h _)⟩
      · exact hea e hem
  · exact h

/-- Disturbance keeps the canonical form. -/
theorem Memory.disturb_wf {m : Memory} (flips : List BitFlip) (h : m.wf = true) :
    (m.disturb flips).wf = true := by
  unfold Memory.disturb
  induction flips generalizing m with
  | nil => exact h
  | cons f flips ih => exact ih (Memory.disturbBit_wf f h)

/-- A word written keeps the canonical form. -/
theorem Memory.writeWord_wf {m : Memory} {k : Nat} {bytes : List Byte} (h : m.wf = true)
    (hk : k < Config.wordTotal) (hb : bytes.length ≤ 8) : (m.writeWord k bytes).wf = true := by
  obtain ⟨hc, he, hca, hea⟩ := (Memory.wf_iff m).1 h
  refine (Memory.wf_iff _).2
    ⟨Table.wf_writeRun _ _ _ _ hc, Table.wf_remove _ _ _ he, fun c hm => ?_,
      fun e hm => hea e (List.mem_filter.1 hm).1⟩
  rcases Table.mem_writeRun hm with hm | hm
  · simp only [Config.wordTotal, Config.memoryBytes] at *; omega
  · exact hca c hm

/-- The words that a range touches (R99). -/
theorem mem_touchedWords {a n k : Nat} :
    k ∈ touchedWords a n ↔ n ≠ 0 ∧ a / 8 ≤ k ∧ k ≤ (a + n - 1) / 8 := by
  unfold touchedWords
  split
  · rename_i h; simp [h]
  · rename_i h
    simp only [List.mem_map, List.mem_range]
    constructor
    · rintro ⟨i, hi, rfl⟩; exact ⟨h, by omega, by omega⟩
    · rintro ⟨-, h1, h2⟩; exact ⟨k - a / 8, by omega, by omega⟩

/-- An address of a range lies in a word that the range touches. -/
theorem word_mem_touchedWords {a n x : Nat} (h1 : a ≤ x) (h2 : x < a + n) :
    x / 8 ∈ touchedWords a n := mem_touchedWords.2 ⟨by omega, by omega, by omega⟩

/-- A range inside exchange memory touches words of exchange memory. -/
theorem touchedWords_lt {a n k : Nat} (h : a + n ≤ Config.memoryBytes) (hk : k ∈ touchedWords a n) :
    k < Config.wordTotal := by
  have := mem_touchedWords.1 hk
  simp only [Config.wordTotal, Config.memoryBytes] at *
  omega

/-- A write inside exchange memory keeps the canonical form. -/
theorem Memory.writeRange_wf {m : Memory} {a : Nat} {data : List Byte} (h : m.wf = true)
    (ha : a + data.length ≤ Config.memoryBytes) : (m.writeRange a data).wf = true := by
  have key : ∀ (l : List Nat) (m' : Memory), m'.wf = true → (∀ k ∈ l, k < Config.wordTotal) →
      (l.foldl (fun m' k => m'.writeWord k
        ((List.range 8).map fun i => m.mergedByte a data (8 * k + i))) m').wf = true := by
    intro l
    induction l with
    | nil => exact fun _ h _ => h
    | cons k l ih =>
      exact fun m' h' hl => ih _ (Memory.writeWord_wf h' (hl k (List.mem_cons_self ..)) (by simp))
        fun j hj => hl j (List.mem_cons_of_mem _ hj)
  exact key _ m h fun k hk => touchedWords_lt ha hk

/-- A page scrub keeps the canonical form. -/
theorem Memory.scrubPage_wf {m : Memory} (page : Nat) (h : m.wf = true) :
    (m.scrubPage page).wf = true := by
  obtain ⟨hc, he, hca, hea⟩ := (Memory.wf_iff m).1 h
  exact (Memory.wf_iff _).2 ⟨Table.wf_clearRun _ _ _ _ hc, Table.wf_clearRun _ _ _ _ he,
    fun c hm => hca c (List.mem_filter.1 hm).1, fun e hm => hea e (List.mem_filter.1 hm).1⟩

/-- The memory of `State.reset` is in its canonical form. -/
theorem Memory.reset_wf : State.reset.xm.wf = true := rfl

/-! ### What an address holds -/

/-- The stored bytes after a word is written. -/
theorem Memory.byte_writeWord (m : Memory) (k x : Nat) (f : Nat → Byte) :
    (m.writeWord k ((List.range 8).map f)).byte x = if x / 8 = k then f (x % 8) else m.byte x := by
  unfold Memory.byte Memory.writeWord
  rw [Table.value_writeRun]
  by_cases h : x / 8 = k
  · subst h
    rw [if_pos (by simp; omega), if_pos rfl]
    have : x - 8 * (x / 8) = x % 8 := by omega
    rw [this, List.getD_eq_getElem?_getD, List.getElem?_map,
      List.getElem?_range (by omega), Option.map_some, Option.getD_some]
  · rw [if_neg (by simp; omega), if_neg h]

/-- The disturbed bits after a word is written. -/
theorem Memory.disturbed_writeWord (m : Memory) (k j : Nat) (bytes : List Byte) :
    (m.writeWord k bytes).disturbed j = if j = k then [] else m.disturbed j := by
  unfold Memory.disturbed Memory.writeWord Table.value
  rw [Table.at?_remove]
  split <;> simp

/-- The stored bytes after a write: merged in the words that it touches, as before elsewhere
(R101). -/
theorem Memory.byte_writeRange (m : Memory) (a : Nat) (data : List Byte) (x : Nat) :
    (m.writeRange a data).byte x
      = if x / 8 ∈ touchedWords a data.length then m.mergedByte a data x else m.byte x := by
  have key : ∀ (l : List Nat) (m' : Memory),
      (l.foldl (fun m' k => m'.writeWord k
        ((List.range 8).map fun i => m.mergedByte a data (8 * k + i))) m').byte x
        = if x / 8 ∈ l then m.mergedByte a data x else m'.byte x := by
    intro l
    induction l with
    | nil => simp
    | cons k l ih =>
      intro m'
      rw [List.foldl_cons, ih, Memory.byte_writeWord]
      by_cases hl : x / 8 ∈ l
      · simp [hl]
      · by_cases hk : x / 8 = k
        · subst hk; simp [hl, Nat.div_add_mod]
        · simp [hl, hk]
  exact key _ m

/-- The disturbed bits after a write: none in the words that it touches (R101). -/
theorem Memory.disturbed_writeRange (m : Memory) (a : Nat) (data : List Byte) (k : Nat) :
    (m.writeRange a data).disturbed k
      = if k ∈ touchedWords a data.length then [] else m.disturbed k := by
  have key : ∀ (bytes : Nat → List Byte) (l : List Nat) (m' : Memory),
      (l.foldl (fun m' k => m'.writeWord k (bytes k)) m').disturbed k
        = if k ∈ l then [] else m'.disturbed k := by
    intro bytes l
    induction l with
    | nil => simp
    | cons j l ih =>
      intro m'
      rw [List.foldl_cons, ih, Memory.disturbed_writeWord]
      by_cases hl : k ∈ l
      · simp [hl]
      · by_cases hk : k = j <;> simp [hl, hk]
  exact key _ _ m

/-- A word without a disturbed bit is clean when it is read (R100). -/
theorem Memory.judge_clean {m : Memory} {k : Nat} (h : m.disturbed k = []) : m.judge k = .clean := by
  simp [Memory.judge, h]

/-- A clean word delivers its stored bytes (R100). -/
theorem Memory.delivered_clean {m : Memory} {x : Nat} (h : m.disturbed (x / 8) = []) :
    m.delivered x = m.byte x := by
  simp [Memory.delivered, Memory.isUncorrectable, Memory.handed, Memory.judge_clean h,
    Nat.div_add_mod]

/-- The stored bytes after a page scrub (R89). -/
theorem Memory.byte_scrubPage (m : Memory) (page x : Nat) :
    (m.scrubPage page).byte x = if x / 256 = page then 0#8 else m.byte x := by
  unfold Memory.byte Memory.scrubPage Table.value
  rw [Table.at?_clearRun]
  by_cases h : x / 256 = page
  · rw [if_pos (by omega), if_pos h]; rfl
  · rw [if_neg (by omega), if_neg h]

/-- The disturbed bits after a page scrub (R89). -/
theorem Memory.disturbed_scrubPage (m : Memory) (page k : Nat) :
    (m.scrubPage page).disturbed k = if k / 32 = page then [] else m.disturbed k := by
  unfold Memory.disturbed Memory.scrubPage Table.value
  rw [Table.at?_clearRun]
  by_cases h : k / 32 = page
  · rw [if_pos (by omega), if_pos h]; rfl
  · rw [if_neg (by omega), if_neg h]

end Sys2Proof.Machine
end

