-- ==== Sys2Proof/Laws/State.lean ====
section
/-! SUPPORT. Each field of the state after each of the shared updates, and what each lookup finds after
it.
-/

namespace Sys2Proof.Machine

/-! ### Ports -/

@[simp] theorem Ports.get_set_same (ps : Ports) (i : PortId) (x : Port) : (ps.set i x).get i = x := by
  cases i <;> rfl

theorem Ports.get_set (ps : Ports) (i j : PortId) (x : Port) :
    (ps.set i x).get j = if j = i then x else ps.get j := by
  cases i <;> cases j <;> rfl

@[simp] theorem Ports.set_acting (ps : Ports) (i : PortId) (x : Port) :
    (ps.set i x).acting = ps.acting := by
  cases i <;> rfl

@[simp] theorem Ports.set_set (ps : Ports) (i : PortId) (x y : Port) :
    (ps.set i x).set i y = ps.set i y := by
  cases i <;> rfl

@[simp] theorem Ports.set_get (ps : Ports) (i : PortId) : ps.set i (ps.get i) = ps := by
  cases i <;> rfl

/-- Ports that agree on each of the three and on the acting slot are equal. -/
theorem Ports.ext_get {ps qs : Ports} (h : ∀ i, ps.get i = qs.get i) (ha : ps.acting = qs.acting) :
    ps = qs := by
  have hp := h .pPort
  have hn := h .nPort
  have hA := h .aPort
  cases ps
  cases qs
  simp_all [Ports.get]

@[simp] theorem State.port_setPort_same (s : State) (i : PortId) (x : Port) :
    (s.setPort i x).port i = x := Ports.get_set_same ..

theorem State.port_setPort (s : State) (i j : PortId) (x : Port) :
    (s.setPort i x).port j = if j = i then x else s.port j := Ports.get_set ..

@[simp] theorem State.port_answer_same (s : State) (i : PortId) (c : ResultCode) (d : List Byte) :
    (s.answer i c d).port i = { s.port i with response := some ⟨c, d⟩ } := State.port_setPort_same ..

theorem State.port_answer (s : State) (i j : PortId) (c : ResultCode) (d : List Byte) :
    (s.answer i c d).port j
      = if j = i then { s.port i with response := some ⟨c, d⟩ } else s.port j :=
  State.port_setPort ..

@[simp] theorem State.reply_eq (s : State) (i : PortId) (c : ResultCode) :
    s.reply i c = s.answer i c [] := rfl

/-! ### `setPort` -/

@[simp] theorem State.setPort_pending (s : State) (i : PortId) (x : Port) :
    (s.setPort i x).pending = s.pending := rfl

@[simp] theorem State.setPort_dir (s : State) (i : PortId) (x : Port) :
    (s.setPort i x).dir = s.dir := rfl

@[simp] theorem State.setPort_alloc (s : State) (i : PortId) (x : Port) :
    (s.setPort i x).alloc = s.alloc := rfl

@[simp] theorem State.setPort_xm (s : State) (i : PortId) (x : Port) :
    (s.setPort i x).xm = s.xm := rfl

@[simp] theorem State.setPort_lastGranted (s : State) (i : PortId) (x : Port) :
    (s.setPort i x).lastGranted = s.lastGranted := rfl

@[simp] theorem State.setPort_move (s : State) (i : PortId) (x : Port) :
    (s.setPort i x).move = s.move := rfl

@[simp] theorem State.setPort_retire (s : State) (i : PortId) (x : Port) :
    (s.setPort i x).retire = s.retire := rfl

@[simp] theorem State.setPort_events (s : State) (i : PortId) (x : Port) :
    (s.setPort i x).events = s.events := rfl

@[simp] theorem State.setPort_policy (s : State) (i : PortId) (x : Port) :
    (s.setPort i x).policy = s.policy := rfl

@[simp] theorem State.setPort_acting (s : State) (i : PortId) (x : Port) :
    (s.setPort i x).ports.acting = s.ports.acting := Ports.set_acting ..

/-! ### `answer` -/

@[simp] theorem State.answer_acting (s : State) (i : PortId) (c : ResultCode) (d : List Byte) :
    (s.answer i c d).ports.acting = s.ports.acting := Ports.set_acting ..


@[simp] theorem State.answer_pending (s : State) (i : PortId) (c : ResultCode) (d : List Byte) :
    (s.answer i c d).pending = s.pending := rfl

@[simp] theorem State.answer_dir (s : State) (i : PortId) (c : ResultCode) (d : List Byte) :
    (s.answer i c d).dir = s.dir := rfl

@[simp] theorem State.answer_alloc (s : State) (i : PortId) (c : ResultCode) (d : List Byte) :
    (s.answer i c d).alloc = s.alloc := rfl

@[simp] theorem State.answer_xm (s : State) (i : PortId) (c : ResultCode) (d : List Byte) :
    (s.answer i c d).xm = s.xm := rfl

@[simp] theorem State.answer_lastGranted (s : State) (i : PortId) (c : ResultCode) (d : List Byte) :
    (s.answer i c d).lastGranted = s.lastGranted := rfl

@[simp] theorem State.answer_move (s : State) (i : PortId) (c : ResultCode) (d : List Byte) :
    (s.answer i c d).move = s.move := rfl

@[simp] theorem State.answer_retire (s : State) (i : PortId) (c : ResultCode) (d : List Byte) :
    (s.answer i c d).retire = s.retire := rfl

@[simp] theorem State.answer_events (s : State) (i : PortId) (c : ResultCode) (d : List Byte) :
    (s.answer i c d).events = s.events := rfl

@[simp] theorem State.answer_policy (s : State) (i : PortId) (c : ResultCode) (d : List Byte) :
    (s.answer i c d).policy = s.policy := rfl

/-! ### `putWindow` -/

@[simp] theorem State.putWindow_pending (s : State) (k : Nat) (w : Window) :
    (s.putWindow k w).pending = s.pending := rfl

@[simp] theorem State.putWindow_ports (s : State) (k : Nat) (w : Window) :
    (s.putWindow k w).ports = s.ports := rfl

@[simp] theorem State.putWindow_alloc (s : State) (k : Nat) (w : Window) :
    (s.putWindow k w).alloc = s.alloc := rfl

@[simp] theorem State.putWindow_xm (s : State) (k : Nat) (w : Window) :
    (s.putWindow k w).xm = s.xm := rfl

@[simp] theorem State.putWindow_lastGranted (s : State) (k : Nat) (w : Window) :
    (s.putWindow k w).lastGranted = s.lastGranted := rfl

@[simp] theorem State.putWindow_move (s : State) (k : Nat) (w : Window) :
    (s.putWindow k w).move = s.move := rfl

@[simp] theorem State.putWindow_retire (s : State) (k : Nat) (w : Window) :
    (s.putWindow k w).retire = s.retire := rfl

@[simp] theorem State.putWindow_events (s : State) (k : Nat) (w : Window) :
    (s.putWindow k w).events = s.events := rfl

@[simp] theorem State.putWindow_policy (s : State) (k : Nat) (w : Window) :
    (s.putWindow k w).policy = s.policy := rfl

/-! ### `putView` -/

@[simp] theorem State.putView_pending (s : State) (v : ViewId) (x : View) :
    (s.putView v x).pending = s.pending := rfl

@[simp] theorem State.putView_ports (s : State) (v : ViewId) (x : View) :
    (s.putView v x).ports = s.ports := rfl

@[simp] theorem State.putView_alloc (s : State) (v : ViewId) (x : View) :
    (s.putView v x).alloc = s.alloc := rfl

@[simp] theorem State.putView_xm (s : State) (v : ViewId) (x : View) :
    (s.putView v x).xm = s.xm := rfl

@[simp] theorem State.putView_lastGranted (s : State) (v : ViewId) (x : View) :
    (s.putView v x).lastGranted = s.lastGranted := rfl

@[simp] theorem State.putView_move (s : State) (v : ViewId) (x : View) :
    (s.putView v x).move = s.move := rfl

@[simp] theorem State.putView_retire (s : State) (v : ViewId) (x : View) :
    (s.putView v x).retire = s.retire := rfl

@[simp] theorem State.putView_events (s : State) (v : ViewId) (x : View) :
    (s.putView v x).events = s.events := rfl

@[simp] theorem State.putView_policy (s : State) (v : ViewId) (x : View) :
    (s.putView v x).policy = s.policy := rfl

/-! ### `setSlot` -/

@[simp] theorem State.setSlot_pending (s : State) (n : Nat) (x : SlotState) :
    (s.setSlot n x).pending = s.pending := rfl

@[simp] theorem State.setSlot_ports (s : State) (n : Nat) (x : SlotState) :
    (s.setSlot n x).ports = s.ports := rfl

@[simp] theorem State.setSlot_alloc (s : State) (n : Nat) (x : SlotState) :
    (s.setSlot n x).alloc = s.alloc := rfl

@[simp] theorem State.setSlot_xm (s : State) (n : Nat) (x : SlotState) :
    (s.setSlot n x).xm = s.xm := rfl

@[simp] theorem State.setSlot_lastGranted (s : State) (n : Nat) (x : SlotState) :
    (s.setSlot n x).lastGranted = s.lastGranted := rfl

@[simp] theorem State.setSlot_move (s : State) (n : Nat) (x : SlotState) :
    (s.setSlot n x).move = s.move := rfl

@[simp] theorem State.setSlot_retire (s : State) (n : Nat) (x : SlotState) :
    (s.setSlot n x).retire = s.retire := rfl

@[simp] theorem State.setSlot_events (s : State) (n : Nat) (x : SlotState) :
    (s.setSlot n x).events = s.events := rfl

@[simp] theorem State.setSlot_policy (s : State) (n : Nat) (x : SlotState) :
    (s.setSlot n x).policy = s.policy := rfl

/-! ### `setPage` -/

@[simp] theorem State.setPage_pending (s : State) (p : Nat) (x : PageState) :
    (s.setPage p x).pending = s.pending := rfl

@[simp] theorem State.setPage_ports (s : State) (p : Nat) (x : PageState) :
    (s.setPage p x).ports = s.ports := rfl

@[simp] theorem State.setPage_dir (s : State) (p : Nat) (x : PageState) :
    (s.setPage p x).dir = s.dir := rfl

@[simp] theorem State.setPage_xm (s : State) (p : Nat) (x : PageState) :
    (s.setPage p x).xm = s.xm := rfl

@[simp] theorem State.setPage_lastGranted (s : State) (p : Nat) (x : PageState) :
    (s.setPage p x).lastGranted = s.lastGranted := rfl

@[simp] theorem State.setPage_move (s : State) (p : Nat) (x : PageState) :
    (s.setPage p x).move = s.move := rfl

@[simp] theorem State.setPage_retire (s : State) (p : Nat) (x : PageState) :
    (s.setPage p x).retire = s.retire := rfl

@[simp] theorem State.setPage_events (s : State) (p : Nat) (x : PageState) :
    (s.setPage p x).events = s.events := rfl

@[simp] theorem State.setPage_policy (s : State) (p : Nat) (x : PageState) :
    (s.setPage p x).policy = s.policy := rfl

/-! ### `setCounter` -/

@[simp] theorem State.setCounter_pending (s : State) (h : Holder) (c : Counter) :
    (s.setCounter h c).pending = s.pending := rfl

@[simp] theorem State.setCounter_ports (s : State) (h : Holder) (c : Counter) :
    (s.setCounter h c).ports = s.ports := rfl

@[simp] theorem State.setCounter_dir (s : State) (h : Holder) (c : Counter) :
    (s.setCounter h c).dir = s.dir := rfl

@[simp] theorem State.setCounter_xm (s : State) (h : Holder) (c : Counter) :
    (s.setCounter h c).xm = s.xm := rfl

@[simp] theorem State.setCounter_lastGranted (s : State) (h : Holder) (c : Counter) :
    (s.setCounter h c).lastGranted = s.lastGranted := rfl

@[simp] theorem State.setCounter_move (s : State) (h : Holder) (c : Counter) :
    (s.setCounter h c).move = s.move := rfl

@[simp] theorem State.setCounter_retire (s : State) (h : Holder) (c : Counter) :
    (s.setCounter h c).retire = s.retire := rfl

@[simp] theorem State.setCounter_events (s : State) (h : Holder) (c : Counter) :
    (s.setCounter h c).events = s.events := rfl

@[simp] theorem State.setCounter_policy (s : State) (h : Holder) (c : Counter) :
    (s.setCounter h c).policy = s.policy := rfl

/-! ### `post` -/

@[simp] theorem State.post_pending (s : State) (n : Notice) :
    (s.post n).pending = s.pending := rfl

@[simp] theorem State.post_dir (s : State) (n : Notice) :
    (s.post n).dir = s.dir := rfl

@[simp] theorem State.post_alloc (s : State) (n : Notice) :
    (s.post n).alloc = s.alloc := rfl

@[simp] theorem State.post_xm (s : State) (n : Notice) :
    (s.post n).xm = s.xm := rfl

@[simp] theorem State.post_lastGranted (s : State) (n : Notice) :
    (s.post n).lastGranted = s.lastGranted := rfl

@[simp] theorem State.post_move (s : State) (n : Notice) :
    (s.post n).move = s.move := rfl

@[simp] theorem State.post_retire (s : State) (n : Notice) :
    (s.post n).retire = s.retire := rfl

@[simp] theorem State.post_events (s : State) (n : Notice) :
    (s.post n).events = s.events := rfl

@[simp] theorem State.post_policy (s : State) (n : Notice) :
    (s.post n).policy = s.policy := rfl

/-! ### `postAll` -/

@[simp] theorem State.postAll_pending (s : State) (ns : List Notice) :
    (s.postAll ns).pending = s.pending := rfl

@[simp] theorem State.postAll_dir (s : State) (ns : List Notice) :
    (s.postAll ns).dir = s.dir := rfl

@[simp] theorem State.postAll_alloc (s : State) (ns : List Notice) :
    (s.postAll ns).alloc = s.alloc := rfl

@[simp] theorem State.postAll_xm (s : State) (ns : List Notice) :
    (s.postAll ns).xm = s.xm := rfl

@[simp] theorem State.postAll_lastGranted (s : State) (ns : List Notice) :
    (s.postAll ns).lastGranted = s.lastGranted := rfl

@[simp] theorem State.postAll_move (s : State) (ns : List Notice) :
    (s.postAll ns).move = s.move := rfl

@[simp] theorem State.postAll_retire (s : State) (ns : List Notice) :
    (s.postAll ns).retire = s.retire := rfl

@[simp] theorem State.postAll_events (s : State) (ns : List Notice) :
    (s.postAll ns).events = s.events := rfl

@[simp] theorem State.postAll_policy (s : State) (ns : List Notice) :
    (s.postAll ns).policy = s.policy := rfl

/-! ### `beginGrant` -/

@[simp] theorem State.beginGrant_pending (s : State) (r : Requester) (flips : List BitFlip) :
    (s.beginGrant r flips).pending = s.pending := rfl

@[simp] theorem State.beginGrant_ports (s : State) (r : Requester) (flips : List BitFlip) :
    (s.beginGrant r flips).ports = s.ports := rfl

@[simp] theorem State.beginGrant_dir (s : State) (r : Requester) (flips : List BitFlip) :
    (s.beginGrant r flips).dir = s.dir := rfl

@[simp] theorem State.beginGrant_alloc (s : State) (r : Requester) (flips : List BitFlip) :
    (s.beginGrant r flips).alloc = s.alloc := rfl

@[simp] theorem State.beginGrant_move (s : State) (r : Requester) (flips : List BitFlip) :
    (s.beginGrant r flips).move = s.move := rfl

@[simp] theorem State.beginGrant_retire (s : State) (r : Requester) (flips : List BitFlip) :
    (s.beginGrant r flips).retire = s.retire := rfl

@[simp] theorem State.beginGrant_events (s : State) (r : Requester) (flips : List BitFlip) :
    (s.beginGrant r flips).events = s.events := rfl

@[simp] theorem State.beginGrant_policy (s : State) (r : Requester) (flips : List BitFlip) :
    (s.beginGrant r flips).policy = s.policy := rfl

/-! ### The parts of the Directory and of the Page Allocator that an update leaves -/

@[simp] theorem State.putWindow_dir_views (s : State) (k : Nat) (w : Window) :
    (s.putWindow k w).dir.views = s.dir.views := rfl

@[simp] theorem State.putWindow_dir_slots (s : State) (k : Nat) (w : Window) :
    (s.putWindow k w).dir.slots = s.dir.slots := rfl

@[simp] theorem State.putWindow_dir_tamper (s : State) (k : Nat) (w : Window) :
    (s.putWindow k w).dir.tamper = s.dir.tamper := rfl

@[simp] theorem State.putView_dir_windows (s : State) (v : ViewId) (x : View) :
    (s.putView v x).dir.windows = s.dir.windows := rfl

@[simp] theorem State.putView_dir_slots (s : State) (v : ViewId) (x : View) :
    (s.putView v x).dir.slots = s.dir.slots := rfl

@[simp] theorem State.putView_dir_tamper (s : State) (v : ViewId) (x : View) :
    (s.putView v x).dir.tamper = s.dir.tamper := rfl

@[simp] theorem State.setSlot_dir_windows (s : State) (n : Nat) (x : SlotState) :
    (s.setSlot n x).dir.windows = s.dir.windows := rfl

@[simp] theorem State.setSlot_dir_views (s : State) (n : Nat) (x : SlotState) :
    (s.setSlot n x).dir.views = s.dir.views := rfl

@[simp] theorem State.setSlot_dir_tamper (s : State) (n : Nat) (x : SlotState) :
    (s.setSlot n x).dir.tamper = s.dir.tamper := rfl

@[simp] theorem State.setPage_alloc_counters (s : State) (p : Nat) (x : PageState) :
    (s.setPage p x).alloc.counters = s.alloc.counters := rfl

@[simp] theorem State.setCounter_alloc_pages (s : State) (h : Holder) (c : Counter) :
    (s.setCounter h c).alloc.pages = s.alloc.pages := rfl

/-! ### Lookups -/

@[simp] theorem State.window?_putWindow_same (s : State) (k : Nat) (w : Window) :
    (s.putWindow k w).window? k = some w := Table.at?_put_same ..

theorem State.window?_putWindow (s : State) (k j : Nat) (w : Window) :
    (s.putWindow k w).window? j = if k = j then some w else s.window? j := Table.at?_put ..

theorem State.view?_putView (s : State) (v u : ViewId) (x : View) :
    (s.putView v x).view? u = if v.key = u.key then some x else s.view? u := Table.at?_put ..

theorem State.slot_setSlot (s : State) (n m : Nat) (x : SlotState) :
    (s.setSlot n x).slot m = if m = n then x else s.slot m := Table.value_store ..

theorem State.page_setPage (s : State) (p q : Nat) (x : PageState) :
    (s.setPage p x).page q = if q = p then x else s.page q := Table.value_store ..

theorem State.counter_setCounter (s : State) (h g : Holder) (c : Counter) :
    (s.setCounter h c).counter g = if g.code = h.code then c else s.counter g :=
  Table.value_store ..

@[simp] theorem State.window?_setPort (s : State) (i : PortId) (x : Port) (a : Nat) :
    (s.setPort i x).window? a = s.window? a := rfl

@[simp] theorem State.view?_setPort (s : State) (i : PortId) (x : Port) (a : ViewId) :
    (s.setPort i x).view? a = s.view? a := rfl

@[simp] theorem State.slot_setPort (s : State) (i : PortId) (x : Port) (a : Nat) :
    (s.setPort i x).slot a = s.slot a := rfl

@[simp] theorem State.page_setPort (s : State) (i : PortId) (x : Port) (a : Nat) :
    (s.setPort i x).page a = s.page a := rfl

@[simp] theorem State.counter_setPort (s : State) (i : PortId) (x : Port) (a : Holder) :
    (s.setPort i x).counter a = s.counter a := rfl

@[simp] theorem State.window?_answer (s : State) (i : PortId) (c : ResultCode) (d : List Byte) (a : Nat) :
    (s.answer i c d).window? a = s.window? a := rfl

@[simp] theorem State.view?_answer (s : State) (i : PortId) (c : ResultCode) (d : List Byte) (a : ViewId) :
    (s.answer i c d).view? a = s.view? a := rfl

@[simp] theorem State.slot_answer (s : State) (i : PortId) (c : ResultCode) (d : List Byte) (a : Nat) :
    (s.answer i c d).slot a = s.slot a := rfl

@[simp] theorem State.page_answer (s : State) (i : PortId) (c : ResultCode) (d : List Byte) (a : Nat) :
    (s.answer i c d).page a = s.page a := rfl

@[simp] theorem State.counter_answer (s : State) (i : PortId) (c : ResultCode) (d : List Byte) (a : Holder) :
    (s.answer i c d).counter a = s.counter a := rfl

@[simp] theorem State.view?_putWindow (s : State) (k : Nat) (w : Window) (a : ViewId) :
    (s.putWindow k w).view? a = s.view? a := rfl

@[simp] theorem State.slot_putWindow (s : State) (k : Nat) (w : Window) (a : Nat) :
    (s.putWindow k w).slot a = s.slot a := rfl

@[simp] theorem State.page_putWindow (s : State) (k : Nat) (w : Window) (a : Nat) :
    (s.putWindow k w).page a = s.page a := rfl

@[simp] theorem State.counter_putWindow (s : State) (k : Nat) (w : Window) (a : Holder) :
    (s.putWindow k w).counter a = s.counter a := rfl

@[simp] theorem State.port_putWindow (s : State) (k : Nat) (w : Window) (a : PortId) :
    (s.putWindow k w).port a = s.port a := rfl

@[simp] theorem State.window?_putView (s : State) (v : ViewId) (x : View) (a : Nat) :
    (s.putView v x).window? a = s.window? a := rfl

@[simp] theorem State.slot_putView (s : State) (v : ViewId) (x : View) (a : Nat) :
    (s.putView v x).slot a = s.slot a := rfl

@[simp] theorem State.page_putView (s : State) (v : ViewId) (x : View) (a : Nat) :
    (s.putView v x).page a = s.page a := rfl

@[simp] theorem State.counter_putView (s : State) (v : ViewId) (x : View) (a : Holder) :
    (s.putView v x).counter a = s.counter a := rfl

@[simp] theorem State.port_putView (s : State) (v : ViewId) (x : View) (a : PortId) :
    (s.putView v x).port a = s.port a := rfl

@[simp] theorem State.window?_setSlot (s : State) (n : Nat) (x : SlotState) (a : Nat) :
    (s.setSlot n x).window? a = s.window? a := rfl

@[simp] theorem State.view?_setSlot (s : State) (n : Nat) (x : SlotState) (a : ViewId) :
    (s.setSlot n x).view? a = s.view? a := rfl

@[simp] theorem State.page_setSlot (s : State) (n : Nat) (x : SlotState) (a : Nat) :
    (s.setSlot n x).page a = s.page a := rfl

@[simp] theorem State.counter_setSlot (s : State) (n : Nat) (x : SlotState) (a : Holder) :
    (s.setSlot n x).counter a = s.counter a := rfl

@[simp] theorem State.port_setSlot (s : State) (n : Nat) (x : SlotState) (a : PortId) :
    (s.setSlot n x).port a = s.port a := rfl

@[simp] theorem State.window?_setPage (s : State) (p : Nat) (x : PageState) (a : Nat) :
    (s.setPage p x).window? a = s.window? a := rfl

@[simp] theorem State.view?_setPage (s : State) (p : Nat) (x : PageState) (a : ViewId) :
    (s.setPage p x).view? a = s.view? a := rfl

@[simp] theorem State.slot_setPage (s : State) (p : Nat) (x : PageState) (a : Nat) :
    (s.setPage p x).slot a = s.slot a := rfl

@[simp] theorem State.counter_setPage (s : State) (p : Nat) (x : PageState) (a : Holder) :
    (s.setPage p x).counter a = s.counter a := rfl

@[simp] theorem State.port_setPage (s : State) (p : Nat) (x : PageState) (a : PortId) :
    (s.setPage p x).port a = s.port a := rfl

@[simp] theorem State.window?_setCounter (s : State) (h : Holder) (c : Counter) (a : Nat) :
    (s.setCounter h c).window? a = s.window? a := rfl

@[simp] theorem State.view?_setCounter (s : State) (h : Holder) (c : Counter) (a : ViewId) :
    (s.setCounter h c).view? a = s.view? a := rfl

@[simp] theorem State.slot_setCounter (s : State) (h : Holder) (c : Counter) (a : Nat) :
    (s.setCounter h c).slot a = s.slot a := rfl

@[simp] theorem State.page_setCounter (s : State) (h : Holder) (c : Counter) (a : Nat) :
    (s.setCounter h c).page a = s.page a := rfl

@[simp] theorem State.port_setCounter (s : State) (h : Holder) (c : Counter) (a : PortId) :
    (s.setCounter h c).port a = s.port a := rfl

@[simp] theorem State.window?_post (s : State) (n : Notice) (a : Nat) :
    (s.post n).window? a = s.window? a := rfl

@[simp] theorem State.view?_post (s : State) (n : Notice) (a : ViewId) :
    (s.post n).view? a = s.view? a := rfl

@[simp] theorem State.slot_post (s : State) (n : Notice) (a : Nat) :
    (s.post n).slot a = s.slot a := rfl

@[simp] theorem State.page_post (s : State) (n : Notice) (a : Nat) :
    (s.post n).page a = s.page a := rfl

@[simp] theorem State.counter_post (s : State) (n : Notice) (a : Holder) :
    (s.post n).counter a = s.counter a := rfl

@[simp] theorem State.window?_postAll (s : State) (ns : List Notice) (a : Nat) :
    (s.postAll ns).window? a = s.window? a := rfl

@[simp] theorem State.view?_postAll (s : State) (ns : List Notice) (a : ViewId) :
    (s.postAll ns).view? a = s.view? a := rfl

@[simp] theorem State.slot_postAll (s : State) (ns : List Notice) (a : Nat) :
    (s.postAll ns).slot a = s.slot a := rfl

@[simp] theorem State.page_postAll (s : State) (ns : List Notice) (a : Nat) :
    (s.postAll ns).page a = s.page a := rfl

@[simp] theorem State.counter_postAll (s : State) (ns : List Notice) (a : Holder) :
    (s.postAll ns).counter a = s.counter a := rfl

@[simp] theorem State.window?_beginGrant (s : State) (r : Requester) (flips : List BitFlip) (a : Nat) :
    (s.beginGrant r flips).window? a = s.window? a := rfl

@[simp] theorem State.view?_beginGrant (s : State) (r : Requester) (flips : List BitFlip) (a : ViewId) :
    (s.beginGrant r flips).view? a = s.view? a := rfl

@[simp] theorem State.slot_beginGrant (s : State) (r : Requester) (flips : List BitFlip) (a : Nat) :
    (s.beginGrant r flips).slot a = s.slot a := rfl

@[simp] theorem State.page_beginGrant (s : State) (r : Requester) (flips : List BitFlip) (a : Nat) :
    (s.beginGrant r flips).page a = s.page a := rfl

@[simp] theorem State.counter_beginGrant (s : State) (r : Requester) (flips : List BitFlip) (a : Holder) :
    (s.beginGrant r flips).counter a = s.counter a := rfl

@[simp] theorem State.port_beginGrant (s : State) (r : Requester) (flips : List BitFlip) (a : PortId) :
    (s.beginGrant r flips).port a = s.port a := rfl

/-! ### Holders and places -/

/-- Holders with one code are one holder (R21). -/
theorem Holder.code_injective {g h : Holder} (e : g.code = h.code) : g = h := by
  cases g <;> cases h <;> simp only [Holder.code] at e <;> first | rfl | omega | skip
  rename_i a b
  rw [Fin.ext (by omega : a.val = b.val)]

/-- A holder code names its holder (R21). -/
@[simp] theorem Holder.ofCode?_code (h : Holder) : Holder.ofCode? h.code = some h := by
  cases h with
  | payment => rfl
  | radio => rfl
  | app n => revert n; decide

/-- Places in range with one key are one place (R22). -/
theorem ViewId.key_injective {u v : ViewId} (hu : u.selector < 32) (hv : v.selector < 32)
    (e : u.key = v.key) : u = v := by
  obtain ⟨g, m⟩ := u
  obtain ⟨h, n⟩ := v
  simp only [ViewId.key] at hu hv e
  have hc : g.code = h.code := by omega
  have hn : m = n := by omega
  rw [Holder.code_injective hc, hn]

/-- The key of a place names it (R23). -/
theorem ViewId.ofKey_key (v : ViewId) (hv : v.selector < 32) : ViewId.ofKey v.key = v := by
  obtain ⟨h, n⟩ := v
  simp only at hv
  have h1 : (h.code * 32 + n) / 32 = h.code := by omega
  have h2 : (h.code * 32 + n) % 32 = n := by omega
  simp [ViewId.ofKey, ViewId.key, h1, h2]

/-- Every selector of a holder is below 32 (R22). -/
theorem Holder.selectorRange_lt (h : Holder) : h.selectorRange < 32 := by
  cases h with
  | payment => decide
  | radio => decide
  | app n => simp only [Holder.selectorRange]; split <;> decide

end Sys2Proof.Machine
end

