-- ==== Sys2Proof/Laws/Ops.lean ====
section
/-! SUPPORT. What each shared operation does, said once: answers and checks, posting, retirement, the
bank exchange, the quiet point, the pins, the writes of exchange memory, and the walks over tables.
-/

namespace Sys2Proof.Machine

/-! ### Answers and checks -/

@[simp] theorem State.onIdle_idle {s : State} {i : PortId} (h : (s.port i).state = .idle)
    (act : State) : s.onIdle i act = act := by
  simp [State.onIdle, State.onPort, PortState.busyRule, h]

theorem State.onPort_taken {s : State} {i : PortId} {during always : Bool}
    (h : (s.port i).state.busyRule during always = none) (act : State) :
    s.onPort i during always act = act := by
  simp [State.onPort, h]

theorem State.onPort_refused {s : State} {i : PortId} {during always : Bool} {code : ResultCode}
    (h : (s.port i).state.busyRule during always = some code) (act : State) :
    s.onPort i during always act = s.reply i code := by
  simp only [State.onPort, h]

@[simp] theorem State.checked_error {α : Type} (s : State) (i : PortId) (code : ResultCode)
    (act : α → State) : s.checked i (.error code) act = s.reply i code := rfl

@[simp] theorem State.checked_ok {α : Type} (s : State) (i : PortId) (a : α) (act : α → State) :
    s.checked i (.ok a) act = act a := rfl

@[simp] theorem require_true (code : ResultCode) : require true code = .ok () := rfl

@[simp] theorem require_false (code : ResultCode) : require false code = .error code := rfl

theorem require_eq_ok {b : Bool} {code : ResultCode} {u : Unit} :
    require b code = .ok u ↔ b = true := by
  cases b <;> simp

@[simp] theorem found_some {α : Type} (a : α) (code : ResultCode) :
    found (some a) code = .ok a := rfl

@[simp] theorem found_none {α : Type} (code : ResultCode) :
    found (none : Option α) code = .error code := rfl

theorem found_eq_ok {α : Type} {x : Option α} {code : ResultCode} {a : α} :
    found x code = .ok a ↔ x = some a := by
  cases x <;> simp

@[simp] theorem firstFailure_nil : firstFailure [] = none := rfl

theorem firstFailure_cons (b : Bool) (code : ResultCode) (rest : List (Bool × ResultCode)) :
    firstFailure ((b, code) :: rest) = if b then some code else firstFailure rest := by
  cases b <;> rfl

/-- A reply changes the port's response and nothing else. -/
theorem State.answer_unchangedBut (s : State) (i : PortId) (code : ResultCode)
    (detail : List Byte) : UnchangedBut (· = .response i) s (s.answer i code detail) := by
  intro x hx
  have hp : ∀ j, (s.answer i code detail).port j
      = { s.port j with response := if j = i then some ⟨code, detail⟩ else (s.port j).response } := by
    intro j
    rw [State.port_answer]
    split
    · rename_i h
      subst h
      rfl
    · rfl
  cases x
  case response j =>
    have hj : j ≠ i := fun h => hx (by rw [h])
    simp only [Place.same, hp, if_neg hj]
  case actingSlot => exact Ports.set_acting ..
  case reserves => exact ⟨rfl, rfl⟩
  all_goals first | rfl | simp only [Place.same, State.column, hp]

/-- A command answered with a bare code is refused, as the statements say it. -/
theorem refused_of_reply {c : Instr} {s : State} {i : PortId} {code : ResultCode}
    (h : exec c s = .next (s.reply i code)) : Refused c s i code :=
  ⟨_, h, by simp [State.answered], s.answer_unchangedBut i code []⟩

/-! ### Posting -/

theorem Ports.get_post (ps : Ports) (n : Notice) (i : PortId) :
    (ps.post n).get i
      = if i = n.holder.port then
          if (ps.get i).notices.length < noticeCapacity i then
            { ps.get i with notices := (ps.get i).notices ++ [n] }
          else { ps.get i with lost := true }
        else ps.get i := by
  unfold Ports.post
  rw [Ports.get_set]
  split
  · subst i
    rfl
  · rfl

@[simp] theorem Ports.post_acting (ps : Ports) (n : Notice) : (ps.post n).acting = ps.acting := by
  simp [Ports.post]

@[simp] theorem Ports.posts_acting (ns : List Notice) (ps : Ports) :
    (ns.foldl Ports.post ps).acting = ps.acting := by
  induction ns generalizing ps with
  | nil => rfl
  | cons n ns ih => simp [ih]

/-- Posting changes a port's notice queue and its notices-lost flag alone. -/
theorem Ports.posts_keep (ns : List Notice) (ps : Ports) (i : PortId) :
    let x := (ns.foldl Ports.post ps).get i
    x = { ps.get i with notices := x.notices, lost := x.lost } := by
  induction ns generalizing ps with
  | nil => rfl
  | cons n ns ih =>
    have h := ih (ps.post n)
    simp only [List.foldl_cons] at h ⊢
    rw [h, Ports.get_post]
    split
    · split <;> rfl
    · rfl

theorem State.port_postAll (s : State) (ns : List Notice) (i : PortId) :
    (s.postAll ns).port i
      = { s.port i with notices := s.noticesAfter ns i, lost := s.lostAfter ns i } :=
  Ports.posts_keep ns s.ports i

@[simp] theorem State.port_postAll_state (s : State) (ns : List Notice) (i : PortId) :
    ((s.postAll ns).port i).state = (s.port i).state := by rw [State.port_postAll]

@[simp] theorem State.port_postAll_staging (s : State) (ns : List Notice) (i : PortId) :
    ((s.postAll ns).port i).staging = (s.port i).staging := by rw [State.port_postAll]

@[simp] theorem State.port_postAll_mark (s : State) (ns : List Notice) (i : PortId) :
    ((s.postAll ns).port i).mark = (s.port i).mark := by rw [State.port_postAll]

@[simp] theorem State.port_postAll_last (s : State) (ns : List Notice) (i : PortId) :
    ((s.postAll ns).port i).last = (s.port i).last := by rw [State.port_postAll]

@[simp] theorem State.port_postAll_transfer (s : State) (ns : List Notice) (i : PortId) :
    ((s.postAll ns).port i).transfer = (s.port i).transfer := by rw [State.port_postAll]

@[simp] theorem State.port_postAll_completion (s : State) (ns : List Notice) (i : PortId) :
    ((s.postAll ns).port i).completion = (s.port i).completion := by rw [State.port_postAll]

@[simp] theorem State.port_postAll_response (s : State) (ns : List Notice) (i : PortId) :
    ((s.postAll ns).port i).response = (s.port i).response := by rw [State.port_postAll]

@[simp] theorem State.postAll_acting (s : State) (ns : List Notice) :
    (s.postAll ns).ports.acting = s.ports.acting := Ports.posts_acting ..

@[simp] theorem State.postAll_nil (s : State) : s.postAll [] = s := rfl

theorem State.post_eq_postAll (s : State) (n : Notice) : s.post n = s.postAll [n] := rfl

theorem State.postAll_postAll (s : State) (ns ms : List Notice) :
    (s.postAll ns).postAll ms = s.postAll (ns ++ ms) := by
  simp [State.postAll]

theorem State.posted_postAll (s : State) (ns : List Notice) : Posted s (s.postAll ns) ns :=
  fun _ => ⟨rfl, rfl⟩

/-- The notice queues stay within their places (R163). -/
theorem Ports.posts_bounded (ns : List Notice) (ps : Ports)
    (h : ∀ i, (ps.get i).notices.length ≤ noticeCapacity i) (i : PortId) :
    ((ns.foldl Ports.post ps).get i).notices.length ≤ noticeCapacity i := by
  induction ns generalizing ps with
  | nil => exact h i
  | cons n ns ih =>
    refine ih _ fun j => ?_
    rw [Ports.get_post]
    split
    · split
      · simp only [List.length_append, List.length_singleton]
        omega
      · exact h j
    · exact h j

/-! ### Windows: retirement, exchange, quiet point, pins -/

/-- An update of the windows that touches one index, and of the Retire Queue, leaves all else. -/
theorem State.beginRetirement_eq (s : State) (k : Nat) (cause : RetireCause) :
    s.beginRetirement k cause
      = match s.window? k with
        | none => s
        | some w =>
          if w.isLive then
            { s.putWindow k (w.retired cause) with
              retire.queue := s.retire.queue ++ if w.quiet then [k] else [] }
          else s := by
  unfold State.beginRetirement
  rcases s.window? k with _ | w
  · rfl
  · rcases hl : w.isLive <;> rcases hq : w.quiet <;>
      simp [Window.retired, State.putWindow, hl, hq]

theorem State.window?_beginRetirement (s : State) (k j : Nat) (cause : RetireCause) :
    (s.beginRetirement k cause).window? j
      = if j = k then (s.window? k).map fun w => if w.isLive then w.retired cause else w
        else s.window? j := by
  rw [State.beginRetirement_eq]
  split
  · rename_i h
    split <;> simp_all
  · rename_i w h
    by_cases hl : w.isLive = true
    · simp only [hl, if_true]
      change (s.putWindow k (w.retired cause)).window? j = _
      rw [State.window?_putWindow]
      by_cases hj : j = k
      · simp [hj, hl, h]
      · simp [hj, Ne.symm hj]
    · by_cases hj : j = k <;> simp_all

theorem State.queue_beginRetirement (s : State) (k : Nat) (cause : RetireCause) :
    (s.beginRetirement k cause).retire.queue
      = s.retire.queue ++ if (s.window? k).any (fun w => w.isLive && w.quiet) then [k] else [] := by
  rw [State.beginRetirement_eq]
  split
  · simp_all
  · split <;> simp_all

/-- The beginning of retirement changes the window and the Retire Queue alone (R79). -/
theorem State.beginRetirement_keeps (s : State) (k : Nat) (cause : RetireCause) :
    s.beginRetirement k cause
      = { s with
          dir.windows := (s.beginRetirement k cause).dir.windows
          retire.queue := (s.beginRetirement k cause).retire.queue } := by
  rw [State.beginRetirement_eq]
  split
  · rfl
  · split <;> rfl

/-- The exchange of the banks (R65, R66). -/
theorem State.exchange_eq (s : State) (k : Nat) (w : Window) (source : SwapSource) :
    s.exchange k w source
      = (s.putWindow k { w with live := w.live.other, swapPending := none }).postAll
          (exchangeNotices s k { w with live := w.live.other, swapPending := none } source) := rfl

theorem State.window?_exchange (s : State) (k j : Nat) (w : Window) (source : SwapSource) :
    (s.exchange k w source).window? j
      = if k = j then some { w with live := w.live.other, swapPending := none } else s.window? j :=
  State.window?_putWindow ..

/-- The quiet-point action of a window (R55 step 3, R72, R84). -/
theorem State.quietPoint_eq (s : State) (k : Nat) :
    s.quietPoint k
      = match s.window? k with
        | none => s
        | some w =>
          if w.joinsQueue then
            { s.putWindow k w.settled with retire.queue := s.retire.queue ++ [k] }
          else if w.settled = w then s
          else (s.putWindow k w.settled).postAll (settledNotices s k w) := by
  unfold State.quietPoint
  rcases s.window? k with _ | w
  · rfl
  · simp only
    rcases hq : w.quiet
    · simp [Window.joinsQueue, Window.settled, hq]
    · rcases hs : w.state with _ | _ | _ | _
      · rcases hp : w.swapPending with _ | src
        · simp [Window.joinsQueue, Window.settled, hq, hs, hp]
        · have hne : w.settled ≠ w := by
            intro e
            have := congrArg Window.swapPending e
            simp [Window.settled, hq, hs, hp] at this
          simp only [Window.joinsQueue, hq, hs, if_neg hne]
          simp [Window.settled, settledNotices, Window.isLive, hq, hs, hp, State.exchange_eq]
      · simp [Window.joinsQueue, Window.settled, hq, hs, State.putWindow]
      · simp [Window.joinsQueue, Window.settled, hq, hs]
      · simp [Window.joinsQueue, Window.settled, hq, hs]

theorem State.window?_quietPoint (s : State) (k j : Nat) :
    (s.quietPoint k).window? j
      = if j = k then (s.window? k).map Window.settled else s.window? j := by
  rw [State.quietPoint_eq]
  split
  · split <;> simp_all
  · rename_i w h
    by_cases hj : j = k
    · subst hj
      simp only [if_true, h, Option.map_some]
      split
      · exact State.window?_putWindow_same ..
      · split
        · rename_i e
          rw [e, h]
        · exact State.window?_putWindow_same ..
    · simp only [if_neg hj]
      have hp : (s.putWindow k w.settled).window? j = s.window? j := by
        rw [State.window?_putWindow, if_neg (Ne.symm hj)]
      split
      · exact hp
      · split
        · rfl
        · exact hp

theorem State.queue_quietPoint (s : State) (k : Nat) :
    (s.quietPoint k).retire.queue
      = s.retire.queue ++ if (s.window? k).any Window.joinsQueue then [k] else [] := by
  rw [State.quietPoint_eq]
  split
  · simp_all
  · rename_i w h
    simp only [h, Option.any_some]
    split
    · rfl
    · split <;> simp [State.postAll]

theorem State.ports_quietPoint (s : State) (k : Nat) :
    (s.quietPoint k).ports
      = (((s.window? k).map (settledNotices s k)).getD []).foldl Ports.post s.ports := by
  rw [State.quietPoint_eq]
  split
  · simp_all
  · rename_i w h
    simp only [h, Option.map_some, Option.getD_some]
    split
    · rename_i hj
      have : settledNotices s k w = [] := by
        simp [Window.joinsQueue] at hj
        simp [settledNotices, Window.isLive, hj]
      rw [this]
      rfl
    · split
      · rename_i e
        have : settledNotices s k w = [] := by
          unfold settledNotices
          split
          · rename_i hq
            simp only [Window.isLive, Bool.and_eq_true, decide_eq_true_eq] at hq
            split
            · rename_i src hp
              have := congrArg Window.swapPending e
              simp [Window.settled, hq, hp] at this
            · rfl
          · rfl
        rw [this]
        rfl
      · rfl

/-- The quiet-point action changes the window, the Retire Queue and the notices alone. -/
theorem State.quietPoint_keeps (s : State) (k : Nat) :
    s.quietPoint k
      = { s with
          dir.windows := (s.quietPoint k).dir.windows
          retire.queue := (s.quietPoint k).retire.queue
          ports := (s.quietPoint k).ports } := by
  rw [State.quietPoint_eq]
  split
  · rfl
  · split
    · rfl
    · split <;> rfl

/-- The damaged flag set, with its notice where it was clear (R20). -/
theorem State.setDamaged_eq (s : State) (k : Nat) :
    s.setDamaged k
      = match s.window? k with
        | none => s
        | some w =>
          if w.damaged then s
          else (s.putWindow k { w with damaged := true }).postAll (damageNotices s k w) := by
  unfold State.setDamaged
  rcases s.window? k with _ | w
  · rfl
  · rcases h : w.damaged <;> simp [damageNotices, h, State.post_eq_postAll]

theorem State.window?_setDamaged (s : State) (k j : Nat) :
    (s.setDamaged k).window? j
      = if j = k then (s.window? k).map fun w => { w with damaged := true } else s.window? j := by
  rw [State.setDamaged_eq]
  split
  · split <;> simp_all
  · rename_i w h
    by_cases hj : j = k
    · subst hj
      simp only [if_true, h, Option.map_some]
      split
      · rename_i hd
        rw [h, ← hd]
      · exact State.window?_putWindow_same ..
    · simp only [if_neg hj]
      split
      · rfl
      · change (s.putWindow k _).window? j = _
        rw [State.window?_putWindow, if_neg (Ne.symm hj)]

theorem State.window?_releasePin (s : State) (k j : Nat) :
    (s.releasePin k).window? j
      = if j = k then (s.window? k).map fun w => { w with pinned := false } else s.window? j := by
  unfold State.releasePin
  split
  · split <;> simp_all
  · rename_i w h
    by_cases hj : j = k
    · subst hj
      simp [h]
    · rw [State.window?_putWindow, if_neg (Ne.symm hj), if_neg hj]

theorem State.window?_pin (s : State) (k j : Nat) :
    (s.pin k).window? j
      = if j = k then (s.window? k).map fun w => { w with pinned := true } else s.window? j := by
  unfold State.pin
  split
  · split <;> simp_all
  · rename_i w h
    by_cases hj : j = k
    · subst hj
      simp [h]
    · rw [State.window?_putWindow, if_neg (Ne.symm hj), if_neg hj]

/-! ### Exchange memory -/

theorem mem_touchedWords_iff (a n k : Nat) : k ∈ touchedWords a n ↔ Touched a n k := by
  rw [mem_touchedWords]
  constructor
  · rintro ⟨hn, h1, h2⟩
    refine ⟨max a (8 * k), by omega, ?_, ?_⟩ <;> omega
  · rintro ⟨x, h1, h2, rfl⟩
    omega

/-- A write makes of exchange memory what R52 and R101 say. -/
theorem Memory.written_writeRange (m : Memory) (a : Nat) (data : List Byte) :
    Written m (m.writeRange a data) a data := by
  have hb := m.byte_writeRange a data
  have hd := m.disturbed_writeRange a data
  refine ⟨fun j hj => ?_, fun x hx ht => ?_, fun x ht => ?_, fun k ht => ?_, fun k ht => ?_⟩
  · have ht : (a + j) / 8 ∈ touchedWords a data.length :=
      word_mem_touchedWords (by omega) (by omega)
    rw [hb, if_pos ht]
    simp [Memory.mergedByte, hj]
  · rw [hb, if_pos ((mem_touchedWords_iff ..).2 ht)]
    simp [Memory.mergedByte, hx]
  · rw [hb, if_neg fun h => ht ((mem_touchedWords_iff ..).1 h)]
  · rw [hd, if_pos ((mem_touchedWords_iff ..).2 ht)]
  · rw [hd, if_neg fun h => ht ((mem_touchedWords_iff ..).1 h)]

/-- The scrub of a page makes of exchange memory what R89 says. -/
theorem Memory.scrubbed_scrubPage (m : Memory) (page : Nat) :
    Scrubbed m (m.scrubPage page) page :=
  ⟨m.byte_scrubPage page, m.disturbed_scrubPage page⟩

/-! ### Walks over the tables -/

theorem mem_windowsWhere {t : Table Window} (h : Table.rising t = true) (p : Window → Bool)
    (k : Nat) : k ∈ windowsWhere t p ↔ ∃ w, Table.at? t k = some w ∧ p w = true := by
  constructor
  · intro hk
    obtain ⟨e, he, rfl⟩ := List.mem_map.1 hk
    obtain ⟨hm, hp⟩ := List.mem_filter.1 he
    exact ⟨e.2, Table.at?_of_mem h hm, hp⟩
  · rintro ⟨w, ha, hp⟩
    exact List.mem_map.2 ⟨(k, w), List.mem_filter.2 ⟨Table.mem_of_at? ha, hp⟩, rfl⟩

/-- The windows that meet a condition come in ascending order of index, each once. -/
theorem windowsWhere_ascending {t : Table Window} (h : Table.rising t = true)
    (p : Window → Bool) : (windowsWhere t p).Pairwise (· < ·) := by
  rw [Table.rising_iff] at h
  exact List.pairwise_map.2 (h.filter _)

theorem mem_childrenOf {views : Table View} (h : Table.rising views = true) (k j : Nat) :
    j ∈ childrenOf views k
      ↔ ∃ y, Table.at? views j = some y ∧ y.parent.map ViewId.key = some k := by
  constructor
  · intro hk
    obtain ⟨e, he, rfl⟩ := List.mem_map.1 hk
    obtain ⟨hm, hp⟩ := List.mem_filter.1 he
    exact ⟨e.2, Table.at?_of_mem h hm, of_decide_eq_true hp⟩
  · rintro ⟨y, ha, hp⟩
    exact List.mem_map.2
      ⟨(j, y), List.mem_filter.2 ⟨Table.mem_of_at? ha, decide_eq_true hp⟩, rfl⟩

theorem at?_voidKeys (views : Table View) (ks : List Nat) (j : Nat) :
    Table.at? (voidKeys views ks) j = if j ∈ ks then none else Table.at? views j := by
  unfold voidKeys
  rw [Table.at?_filter_key views (fun k => !ks.contains k) j]
  by_cases hj : j ∈ ks <;> simp [hj]

end Sys2Proof.Machine
end

