-- ==== Sys2Proof/Laws/PerInstr.lean ====
section
/-! SUPPORT. The length of every request: the parameter bytes of each command as the request table
gives them (R174), said for each constructor.
-/

namespace Sys2Proof.Laws.RequestLength

/-- The length that R174 gives the request of a command code; LOAD STAGING has its count besides. -/
def required : Nat → Option Nat
  | 0x01 => some 0
  | 0x02 => some 0
  | 0x03 => some 0
  | 0x08 => some 4
  | 0x09 => some 4
  | 0x0A => some 0
  | 0x10 => some 8
  | 0x11 => some 8
  | 0x12 => some 14
  | 0x20 => some 13
  | 0x21 => some 3
  | 0x22 => some 4
  | 0x23 => some 1
  | 0x24 => some 1
  | 0x25 => some 1
  | 0x26 => some 3
  | 0x27 => some 4
  | 0x28 => some 1
  | 0x30 => some 1
  | 0x31 => some 1
  | 0x32 => some 1
  | 0x38 => some 4
  | 0x39 => some 4
  | 0x3A => some 3
  | 0x3B => some 0
  | 0x3C => some 0
  | _ => none

/-- The payload of a command: LOAD STAGING alone has one. -/
def payloadLength (i : Instr) : Nat :=
  match i with
  | .loadStaging _ _ _ payload => payload.length
  | _ => 0

/-- The request of a command, where a frame carries it, has the length that the table gives. -/
def Statement (i : Instr) : Prop :=
  ∀ p code body, i.request = some (p, code, body) →
    some body.length = (required code.toNat).map (· + payloadLength i)

theorem readStatus : ∀ x0, Statement (.readStatus x0) := by
  intro x0 p code body h
  cases h
  rfl

theorem readNotice : ∀ x0, Statement (.readNotice x0) := by
  intro x0 p code body h
  cases h
  rfl

theorem portReset : ∀ x0, Statement (.portReset x0) := by
  intro x0 p code body h
  cases h
  rfl

theorem loadStaging : ∀ x0 x1 x2 x3, Statement (.loadStaging x0 x1 x2 x3) := by
  intro x0 x1 x2 x3 p code body h
  cases h
  simp [required, payloadLength, Frame.bytes2]
  omega

theorem readStaging : ∀ x0 x1 x2, Statement (.readStaging x0 x1 x2) := by
  intro x0 x1 x2 p code body h
  cases h
  rfl

theorem clearStaging : ∀ x0, Statement (.clearStaging x0) := by
  intro x0 p code body h
  cases h
  rfl

theorem put : ∀ x0 x1, Statement (.put x0 x1) := by
  intro x0 x1 p code body h
  cases h
  rfl

theorem fetch : ∀ x0 x1, Statement (.fetch x0 x1) := by
  intro x0 x1 p code body h
  cases h
  rfl

theorem move : ∀ x0 x1, Statement (.move x0 x1) := by
  intro x0 x1 p code body h
  cases h
  rfl

theorem openWindow : ∀ x0 x1, Statement (.openWindow x0 x1) := by
  intro x0 x1 p code body h
  cases h
  rfl

theorem grantView : ∀ x0 x1 x2 x3, Statement (.grantView x0 x1 x2 x3) := by
  intro x0 x1 x2 x3 p code body h
  cases h
  rfl

theorem narrowView : ∀ x0 x1 x2 x3 x4, Statement (.narrowView x0 x1 x2 x3 x4) := by
  intro x0 x1 x2 x3 x4 p code body h
  cases h
  rfl

theorem dropView : ∀ x0 x1, Statement (.dropView x0 x1) := by
  intro x0 x1 p code body h
  cases h
  rfl

theorem describeView : ∀ x0 x1, Statement (.describeView x0 x1) := by
  intro x0 x1 p code body h
  cases h
  rfl

theorem retireWindow : ∀ x0 x1, Statement (.retireWindow x0 x1) := by
  intro x0 x1 p code body h
  cases h
  rfl

theorem renew : ∀ x0 x1 x2, Statement (.renew x0 x1 x2) := by
  intro x0 x1 x2 p code body h
  cases h
  rfl

theorem stageLimit : ∀ x0 x1 x2, Statement (.stageLimit x0 x1 x2) := by
  intro x0 x1 x2 p code body h
  cases h
  rfl

theorem swapBanks : ∀ x0 x1, Statement (.swapBanks x0 x1) := by
  intro x0 x1 p code body h
  cases h
  rfl

theorem selectApp : ∀ x0 x1, Statement (.selectApp x0 x1) := by
  intro x0 x1 p code body h
  cases h
  rfl

theorem openSlot : ∀ x0 x1, Statement (.openSlot x0 x1) := by
  intro x0 x1 p code body h
  cases h
  rfl

theorem closeSlot : ∀ x0 x1, Statement (.closeSlot x0 x1) := by
  intro x0 x1 p code body h
  cases h
  rfl

theorem setPools : ∀ x0 x1 x2, Statement (.setPools x0 x1 x2) := by
  intro x0 x1 x2 p code body h
  cases h
  rfl

theorem setQuota : ∀ x0 x1 x2 x3, Statement (.setQuota x0 x1 x2 x3) := by
  intro x0 x1 x2 x3 p code body h
  cases h
  rfl

theorem setLine : ∀ x0 x1 x2 x3, Statement (.setLine x0 x1 x2 x3) := by
  intro x0 x1 x2 x3 p code body h
  cases h
  rfl

theorem lockPolicy : ∀ x0, Statement (.lockPolicy x0) := by
  intro x0 p code body h
  cases h
  rfl

theorem clearTamper : ∀ x0, Statement (.clearTamper x0) := by
  intro x0 p code body h
  cases h
  rfl

theorem frameRejected : ∀ x0 x1, Statement (.frameRejected x0 x1) := by
  intro x0 x1 p code body h
  cases h

theorem frameDiscarded : ∀ x0 x1, Statement (.frameDiscarded x0 x1) := by
  intro x0 x1 p code body h
  cases h

theorem deviceReset : ∀ x0 x1, Statement (.deviceReset x0 x1) := by
  intro x0 x1 p code body h
  cases h

theorem startupScrubGrant : Statement .startupScrubGrant := by
  intro p code body h
  cases h

theorem startupPageRelease : Statement .startupPageRelease := by
  intro p code body h
  cases h

theorem scrubEnd : Statement .scrubEnd := by
  intro p code body h
  cases h

theorem putGrant : ∀ x0 x1, Statement (.putGrant x0 x1) := by
  intro x0 x1 p code body h
  cases h

theorem fetchGrant : ∀ x0 x1, Statement (.fetchGrant x0 x1) := by
  intro x0 x1 p code body h
  cases h

theorem transferCompletion : ∀ x0, Statement (.transferCompletion x0) := by
  intro x0 p code body h
  cases h

theorem moveTakeHead : Statement .moveTakeHead := by
  intro p code body h
  cases h

theorem startCheck : Statement .startCheck := by
  intro p code body h
  cases h

theorem fillPatternRead : ∀ x0, Statement (.fillPatternRead x0) := by
  intro x0 p code body h
  cases h

theorem chunkCheck : Statement .chunkCheck := by
  intro p code body h
  cases h

theorem moveChunkGrant : ∀ x0, Statement (.moveChunkGrant x0) := by
  intro x0 p code body h
  cases h

theorem moveEnd : Statement .moveEnd := by
  intro p code body h
  cases h

theorem retireTakeHead : Statement .retireTakeHead := by
  intro p code body h
  cases h

theorem sweep : Statement .sweep := by
  intro p code body h
  cases h

theorem pageScrubGrant : Statement .pageScrubGrant := by
  intro p code body h
  cases h

theorem pageRelease : Statement .pageRelease := by
  intro p code body h
  cases h

theorem windowFreeing : Statement .windowFreeing := by
  intro p code body h
  cases h

theorem lineEdge : ∀ x0 x1, Statement (.lineEdge x0 x1) := by
  intro x0 x1 p code body h
  cases h

theorem lineEvent : ∀ x0, Statement (.lineEvent x0) := by
  intro x0 p code body h
  cases h

theorem tamperLineEvent : ∀ x0, Statement (.tamperLineEvent x0) := by
  intro x0 p code body h
  cases h

theorem tickEmit : Statement .tickEmit := by
  intro p code body h
  cases h

theorem tick : Statement .tick := by
  intro p code body h
  cases h

theorem lifetimeExpiry : ∀ x0, Statement (.lifetimeExpiry x0) := by
  intro x0 p code body h
  cases h

end Sys2Proof.Laws.RequestLength
end

