-- ==== Sys2Proof/WellFormed.lean ====
section
/-! DEFINITION. Which commands and events can arrive at all.

A parameter out of its range is not ill-formed: the part answers it (R158). What is ill-formed is what
no select window and no pin can present: a FRAME_REJECTED whose bytes pass the judgement, a
FRAME_DISCARDED whose bytes are a whole request, a payload that no length field can state, a
disturbance outside exchange memory, a window index outside the Window Table.
-/

namespace Sys2Proof

/-- Each disturbed word is a word of exchange memory (R99). -/
def flipsInRange (flips : List BitFlip) : Bool :=
  flips.all fun f => decide (f.word < Config.wordTotal)

/-- The command or event can arrive. The payload of LOAD STAGING and its four parameter bytes fit the
two-byte length of the frame (R157) and the payload is as long as the count gives, or the frame is
answered FRAME (R44) and not ill-formed; SELECT APP, OPEN SLOT and CLOSE SLOT may arrive on any port
(R131). -/
def Instr.wellFormed : Instr → Bool
  | .loadStaging _ _ _ payload => decide (payload.length + 4 < 65536)
  | .frameRejected p bytes => Frame.judge p bytes == .frame || Frame.judge p bytes == .unknown
  | .frameDiscarded p bytes => Frame.judge p bytes == .incomplete
  | .deviceReset _ flips => flipsInRange flips
  | .putGrant _ flips => flipsInRange flips
  | .fetchGrant _ flips => flipsInRange flips
  | .fillPatternRead flips => flipsInRange flips
  | .moveChunkGrant flips => flipsInRange flips
  | .lifetimeExpiry window => decide (1 ≤ window ∧ window ≤ Config.windowTotal)
  | .readStatus _ => true
  | .readNotice _ => true
  | .portReset _ => true
  | .readStaging _ _ _ => true
  | .clearStaging _ => true
  | .put _ _ => true
  | .fetch _ _ => true
  | .move _ _ => true
  | .openWindow _ _ => true
  | .grantView _ _ _ _ => true
  | .narrowView _ _ _ _ _ => true
  | .dropView _ _ => true
  | .describeView _ _ => true
  | .retireWindow _ _ => true
  | .renew _ _ _ => true
  | .stageLimit _ _ _ => true
  | .swapBanks _ _ => true
  | .selectApp _ _ => true
  | .openSlot _ _ => true
  | .closeSlot _ _ => true
  | .setPools _ _ _ => true
  | .setQuota _ _ _ _ => true
  | .setLine _ _ _ _ => true
  | .lockPolicy _ => true
  | .clearTamper _ => true
  | .startupScrubGrant => true
  | .startupPageRelease => true
  | .scrubEnd => true
  | .transferCompletion _ => true
  | .moveTakeHead => true
  | .startCheck => true
  | .chunkCheck => true
  | .moveEnd => true
  | .retireTakeHead => true
  | .sweep => true
  | .pageScrubGrant => true
  | .pageRelease => true
  | .windowFreeing => true
  | .lineEdge _ _ => true
  | .lineEvent _ => true
  | .tamperLineEvent _ => true
  | .tickEmit => true
  | .tick => true

end Sys2Proof
end

