-- ==== Sys2Proof/Tests/Slice0.lean ====
section
/-! SUPPORT. Tests on small states: what cannot arrive is refused by the check of well-formedness, one
step of each row, and for every statement a state and operands that meet its hypotheses.
-/

namespace Sys2Proof.Tests

set_option Elab.async false

open Sys2Proof.Machine

/-! ### Well-formedness: one ill-formed term for each check -/

theorem test_illFormed_loadStaging :
    (Instr.loadStaging .pPort 0 0 (List.replicate 65532 0#8)).wellFormed = false := by
  rw [Instr.wellFormed, List.length_replicate]
  rfl

theorem test_illFormed_frameRejected :
    (Instr.frameRejected .pPort (Frame.ofRequest 0x01#8 [])).wellFormed = false := by
  decide +kernel

theorem test_illFormed_frameDiscarded :
    (Instr.frameDiscarded .pPort (Frame.ofRequest 0x01#8 [])).wellFormed = false := by
  decide +kernel

theorem test_illFormed_deviceReset :
    (Instr.deviceReset 0 [⟨65536, 0⟩]).wellFormed = false := by decide

theorem test_illFormed_putGrant :
    (Instr.putGrant .pPort [⟨0, 0⟩, ⟨65536, 0⟩]).wellFormed = false := by decide

theorem test_illFormed_fetchGrant :
    (Instr.fetchGrant .nPort [⟨65536, 0⟩]).wellFormed = false := by decide

theorem test_illFormed_fillPatternRead :
    (Instr.fillPatternRead [⟨70000, 0⟩]).wellFormed = false := by decide

theorem test_illFormed_moveChunkGrant :
    (Instr.moveChunkGrant [⟨65536, 63⟩]).wellFormed = false := by decide

theorem test_illFormed_lifetimeExpiry :
    (Instr.lifetimeExpiry 0).wellFormed = false ∧ (Instr.lifetimeExpiry 256).wellFormed = false := by
  decide

theorem test_wellFormed_edges :
    (Instr.lifetimeExpiry 1).wellFormed = true ∧ (Instr.lifetimeExpiry 255).wellFormed = true
      ∧ (Instr.putGrant .aPort [⟨65535, 71⟩]).wellFormed = true
      ∧ (Instr.frameDiscarded .pPort [0x01#8, 0#8]).wellFormed = true
      ∧ (Instr.frameRejected .pPort (Frame.ofRequest 0x30#8 [0#8])).wellFormed = true := by
  decide +kernel

/-! ### Frames -/

/-- The nine digits' check value of the code that R157 describes. -/
theorem test_frameCheck :
    Frame.crc16 [0x31#8, 0x32#8, 0x33#8, 0x34#8, 0x35#8, 0x36#8, 0x37#8, 0x38#8, 0x39#8]
      = 0x29B1#16 := by
  decide +kernel

theorem test_frame_swapBanks :
    Frame.commandOf .nPort 0x28 [0x05#8] = .taken (.swapBanks .nPort 0x05#8)
      ∧ Frame.commandOf .pPort 0x30 [0x05#8] = .unknown
      ∧ Frame.commandOf .aPort 0x30 [0x05#8] = .taken (.selectApp .aPort 0x05#8)
      ∧ Frame.commandOf .pPort 0x04 [] = .unknown
      ∧ Frame.commandOf .pPort 0x28 [] = .frame := by
  decide +kernel

theorem test_frame_openWindow :
    Frame.commandOf .pPort 0x20
        [0x01#8, 0x10#8, 0x02#8, 0x01#8, 0x00#8, 0x00#8, 0x00#8, 0x02#8, 0x10#8, 0x01#8, 0x02#8,
         0x03#8, 0x01#8]
      = .taken (.openWindow .pPort ⟨0x01#8, 0x10#8, 0x02#8, 0x010000#24, 0x000210#24, 0x0102#16,
          0x03#8, 0x01#8⟩) := by
  decide +kernel

/-! ### A small state of the running part -/

/-- A LIVE window with the given banks, and nothing else set. -/
def window (owner : Holder) (cls : WindowClass) (unit : Nat) (bank0 : Bank) (bank1 : Option Bank) :
    Window where
  state := .live
  owner := owner
  cls := cls
  unit := unit
  bank0 := bank0
  bank1 := bank1
  live := .zero
  swapPending := none
  inFlight := 0
  pinned := false
  lifetime := none
  binding := none
  damaged := false
  cause := none

/-- P's window of two banks, bound to line 0 for a swap, with one tick to live. -/
def window1 : Window :=
  { window .payment .common 4 ⟨0, 2, 512⟩ (some ⟨2, 2, 300⟩) with
    binding := some ⟨0, .swap⟩, lifetime := some 1 }

/-- N's GUARDED window, bound to line 0 for a retirement. -/
def window2 : Window :=
  { window .radio .guarded 1 ⟨4, 1, 256⟩ none with binding := some ⟨0, .retire⟩ }

/-- The window of app slot 1. -/
def window3 : Window := window (.app 1) .common 1 ⟨5, 1, 200⟩ none

def all : Rights := ⟨true, true, true, true⟩
def readWrite : Rights := ⟨true, true, false, false⟩
def noSwap : Rights := ⟨true, true, true, false⟩

/-- Views: P 1 root of window 1; P 2 on window 2; P 3 on window 3; N 1 root of window 2; N 2 on window
1; the A-system's 1 on window 3; slot 1's 1 root of window 3. -/
def views : Table View :=
  [(1, ⟨1, all, true, none, 0⟩),
   (2, ⟨2, readWrite, false, some ⟨.radio, 1⟩, 1⟩),
   (3, ⟨3, readWrite, false, some ⟨.app 1, 1⟩, 1⟩),
   (33, ⟨2, noSwap, true, none, 0⟩),
   (34, ⟨1, readWrite, false, some ⟨.payment, 1⟩, 1⟩),
   (1025, ⟨3, readWrite, false, some ⟨.app 1, 1⟩, 1⟩),
   (1057, ⟨3, noSwap, true, none, 0⟩)]

def idlePort : Port := { Port.reset with state := .idle }

/-- The part in RUNNING with three windows, every port IDLE, line 0 BINDABLE and line 1 TAMPER. -/
def base : State where
  pending := []
  ports := ⟨idlePort, idlePort, idlePort, 0⟩
  dir := ⟨[(1, window1), (2, window2), (3, window3)], views, [(1, .opened)], false⟩
  alloc :=
    ⟨[(0, .allocated 1 .zero), (1, .allocated 1 .zero), (2, .allocated 1 .one),
      (3, .allocated 1 .one), (4, .allocated 2 .zero), (5, .allocated 3 .zero), (6, .free),
      (7, .free), (8, .free), (9, .free)],
     [(0, ⟨1, 4⟩), (1, ⟨1, 1⟩), (33, ⟨1, 1⟩)]⟩
  xm := ⟨[(0, 0xA1#8), (1, 0xA2#8), (9, 0xB1#8), (1280, 0xC1#8)], []⟩
  lastGranted := .retireEngine
  move := ⟨[], .idle, 0, []⟩
  retire := ⟨[], .idle, false⟩
  events := ⟨[], [], 0, 0⟩
  policy :=
    { Policy.reset with
      phase := .running
      lines := [(0, ⟨.bindable, .either⟩), (1, ⟨.tamper, .rising⟩)] }

/-- The part before the lock. -/
def configuring : State := { base with policy.phase := .configuring }

/-- The part with slot 1 acting. -/
def slotActs : State := { base with ports.acting := 1 }

/-- The state after a command, the state before it where it stops. -/
def run (c : Instr) (s : State) : State :=
  match exec c s with
  | .next t => t
  | .fault _ => s
  | .refused _ => s

/-- The answer that a port drives after a command. -/
def answer (c : Instr) (i : PortId) (s : State) : Option Response := ((run c s).port i).response

/-! ### One step of each row -/

theorem test_readStatus :
    answer (.readStatus .aPort) .aPort slotActs
      = some ⟨.ok, [1#8, 2#8, 0#8, 0#8, 0#8, 0#8, 0#8, 0#8, 0#8, 0#8, 0#8, 1#8]⟩ := by
  decide +kernel

/-- The part with one notice at P. -/
def noticed : State := base.post (Notice.swapDone ⟨.payment, 1⟩ .line .one 300)

theorem test_readNotice :
    answer (.readNotice .pPort) .pPort noticed
        = some ⟨.ok, [4#8, 0#8, 1#8, 0#8, 2#8, 1#8, 0#8, 0#8, 0#8, 0#8, 1#8, 0x2C#8]⟩
      ∧ ((run (.readNotice .pPort) noticed).port .pPort).attn = false := by
  decide +kernel

theorem test_portReset :
    answer (.portReset .pPort) .pPort noticed = some ⟨.ok, [0#8]⟩
      ∧ ((run (.portReset .pPort) noticed).port .pPort).notices = [] := by
  decide +kernel

theorem test_loadStaging :
    let t := run (.loadStaging .nPort 510 2 [7#8, 8#8]) base
    t.column .nPort 510 = 7#8 ∧ t.column .nPort 511 = 8#8
      ∧ answer (.loadStaging .nPort 511 2 [7#8, 8#8]) .nPort base = some ⟨.badArg, []⟩ := by
  decide +kernel

/-- The part with two bytes and the mark in N's staging buffer. -/
def staged : State :=
  base.setPort .nPort { idlePort with staging := [(0, 1#8), (1, 2#8)], mark := true }

theorem test_readStaging :
    answer (.readStaging .nPort 0 3) .nPort staged = some ⟨.ok, [1#8, 2#8, 0#8]⟩ := by
  decide +kernel

theorem test_clearStaging :
    (run (.clearStaging .nPort) staged).port .nPort
      = { idlePort with response := some ⟨.ok, []⟩ } := by
  decide +kernel

def putParams : TransferParams := ⟨2#8, 0#8, 8#16, 0#16, 4#16⟩
def fetchParams : TransferParams := ⟨1#8, 0#8, 0#16, 0#16, 4#16⟩

theorem test_put :
    answer (.put .nPort putParams) .nPort base = some ⟨.accepted, []⟩
      ∧ (run (.put .nPort putParams) base).nextGrant = some (.port .nPort)
      ∧ answer (.put .nPort putParams) .nPort staged = some ⟨.classRefused, []⟩ := by
  decide +kernel

theorem test_fetch :
    answer (.fetch .pPort fetchParams) .pPort base = some ⟨.accepted, []⟩
      ∧ ((run (.fetch .pPort fetchParams) base).window? 1).map Window.inFlight = some 1 := by
  decide +kernel

/-- N holds a PUT of 4 bytes at offset 8 of window 1, and its buffer two bytes. -/
def putWaits : State := run (.put .nPort putParams) (base.setPort .nPort
  { idlePort with staging := [(0, 1#8), (1, 2#8)] })

/-- P holds a FETCH of 4 bytes at offset 0 of window 1. -/
def fetchWaits : State := run (.fetch .pPort fetchParams) base

theorem test_putGrant :
    let t := run (.putGrant .nPort [⟨1, 9⟩]) putWaits
    t.xm.byte 8 = 1#8 ∧ t.xm.byte 9 = 2#8 ∧ t.xm.byte 10 = 0#8 ∧ t.xm.disturbed 1 = []
      ∧ (t.port .nPort).completion = some ⟨1, 0⟩ := by
  decide +kernel

theorem test_fetchGrant :
    let t := run (.fetchGrant .pPort [⟨0, 0⟩, ⟨0, 70⟩]) fetchWaits
    t.column .pPort 0 = 0#8 ∧ (t.port .pPort).completion = some ⟨0, 1⟩
      ∧ (run (.fetchGrant .pPort [⟨0, 0⟩]) fetchWaits).column .pPort 0 = 0xA1#8 := by
  decide +kernel

/-- P's FETCH has read an uncorrectable word. -/
def fetchDone : State := run (.fetchGrant .pPort [⟨0, 0⟩, ⟨0, 70⟩]) fetchWaits

theorem test_transferCompletion :
    let t := run (.transferCompletion .pPort) fetchDone
    (t.port .pPort).last = ⟨.dataError, 4, 0, 1⟩
      ∧ (t.window? 1).map Window.damaged = some true
      ∧ (t.port .pPort).notices = [Notice.windowDamaged .payment 1] := by
  decide +kernel

def moveParams : MoveParams := ⟨1#8, 0#8, 0#16, 3#8, 0#8, 5#16, 8#24, 0#8, 0#8, 0x77#8⟩

/-- P's move from window 1 to window 3 waits. -/
def moveWaits : State := run (.move .pPort moveParams) base

theorem test_move :
    answer (.move .pPort moveParams) .pPort base = some ⟨.ok, []⟩
      ∧ moveWaits.move.queue.length = 1
      ∧ answer (.move .pPort { moveParams with srcSelector := 2#8 }) .pPort base
        = some ⟨.classRefused, []⟩ := by
  decide +kernel

def moveTaken : State := run .moveTakeHead moveWaits
def moveStarted : State := run .startCheck moveTaken

theorem test_moveTakeHead :
    moveTaken.move.state = .startCheck
      ∧ moveTaken.move.queue.map MoveRequest.running = [true] := by
  decide +kernel

theorem test_startCheck :
    moveStarted.move.state = .chunkGrant ∧ moveStarted.nextGrant = some .moveEngine
      ∧ (moveStarted.window? 3).map Window.pinned = some true
      ∧ ((run .startCheck { moveTaken with dir.windows := [] }).port .pPort).notices
        = [Notice.moveDone .payment 0x77#8 .stale 0 0] := by
  decide +kernel

def moveCopied : State := run (.moveChunkGrant []) moveStarted

theorem test_moveChunkGrant :
    moveCopied.xm.byte 1285 = 0xA1#8 ∧ moveCopied.xm.byte 1286 = 0xA2#8
      ∧ moveCopied.move.state = .moveEnd false := by
  decide +kernel

theorem test_moveEnd :
    let t := run .moveEnd moveCopied
    (t.port .pPort).notices = [Notice.moveDone .payment 0x77#8 .ok 8 0]
      ∧ (t.window? 1).map Window.pinned = some false ∧ t.move.queue = [] := by
  decide +kernel

/-- P's fill of 8 bytes of window 3 with the first four of window 1, started. -/
def fillStarted : State :=
  run .startCheck (run .moveTakeHead (run (.move .pPort
    { moveParams with mode := 1#8, fillUnit := 4#8 }) base))

def fillRead : State := run (.fillPatternRead []) fillStarted

theorem test_fillPatternRead :
    fillRead.move.pattern = [(0, 0xA1#8), (1, 0xA2#8)] ∧ fillRead.move.state = .chunkCheck := by
  decide +kernel

theorem test_chunkCheck :
    (run .chunkCheck fillRead).move.state = .chunkGrant
      ∧ ((run .chunkCheck { fillRead with dir.views := [] }).port .pPort).notices
        = [Notice.moveDone .payment 0x77#8 .aborted 0 0] := by
  decide +kernel

def openParams : OpenParams := ⟨0#8, 1#8, 2#8, 257#24, 1#24, 5#16, 0#8, 1#8⟩

theorem test_openWindow :
    answer (.openWindow .pPort openParams) .pPort base = some ⟨.ok, [4#8]⟩
      ∧ ((run (.openWindow .pPort openParams) base).window? 4).map
          (fun w => (w.bank0, w.bank1)) = some (⟨6, 2, 257⟩, some ⟨8, 1, 1⟩) := by
  decide +kernel

theorem test_grantView :
    answer (.grantView .pPort 1#8 0x20#8 1#8) .pPort base = some ⟨.ok, [2#8]⟩
      ∧ ((run (.grantView .pPort 1#8 0x20#8 1#8) base).port .aPort).notices
        = [Notice.viewGranted (.app 0) 2 ⟨true, false, false, false⟩ .payment 512] := by
  decide +kernel

theorem test_narrowView :
    let t := run (.narrowView .nPort 1#8 0#8 2#8 0#8) base
    t.view? ⟨.payment, 2⟩ = none
      ∧ (t.port .pPort).notices = [Notice.viewVoided ⟨.payment, 2⟩ .narrowedToNone] := by
  decide +kernel

theorem test_dropView :
    (run (.dropView .pPort 2#8) base).view? ⟨.payment, 2⟩ = none
      ∧ answer (.dropView .pPort 1#8) .pPort base = some ⟨.badArg, []⟩ := by
  decide +kernel

theorem test_describeView :
    answer (.describeView .nPort 2#8) .nPort base
      = some ⟨.ok, [1#8, 0#8, 4#8, 2#8, 0#8, 0#8, 2#8, 0#8, 0#8, 1#8, 0x2C#8, 3#8, 1#8, 0#8, 0#8,
          0#8, 0#8]⟩ := by
  decide +kernel

theorem test_retireWindow :
    answer (.retireWindow .pPort 2#8) .pPort base = some ⟨.ok, [3#8]⟩
      ∧ ((run (.retireWindow .pPort 2#8) base).window? 2).map Window.cause = some (some .forced)
      ∧ answer (.retireWindow .nPort 2#8) .nPort base = some ⟨.notOwner, []⟩ := by
  decide +kernel

theorem test_renew :
    ((run (.renew .pPort 1#8 0#16) base).window? 1).map Window.lifetime = some none := by
  decide +kernel

theorem test_stageLimit :
    ((run (.stageLimit .pPort 1#8 512#24) base).window? 1).bind Window.bank1
        = some ⟨2, 2, 512⟩
      ∧ answer (.stageLimit .pPort 1#8 512#24) .pPort fetchDone = some ⟨.busy, []⟩ := by
  decide +kernel

theorem test_swapBanks :
    answer (.swapBanks .pPort 1#8) .pPort base = some ⟨.ok, [0#8]⟩
      ∧ answer (.swapBanks .pPort 1#8) .pPort putWaits = some ⟨.ok, [1#8]⟩
      ∧ ((run (.swapBanks .pPort 1#8) base).port .nPort).notices
        = [Notice.swapDone ⟨.radio, 2⟩ .holder .one 300] := by
  decide +kernel

theorem test_selectApp :
    (run (.selectApp .aPort 31#8) base).ports.acting = 31
      ∧ answer (.selectApp .aPort 32#8) .aPort base = some ⟨.badArg, []⟩ := by
  decide +kernel

theorem test_openSlot :
    (run (.openSlot .aPort 2#8) base).slot 2 = .opened
      ∧ answer (.openSlot .aPort 1#8) .aPort base = some ⟨.badArg, []⟩ := by
  decide +kernel

theorem test_closeSlot :
    let t := run (.closeSlot .aPort 1#8) base
    t.slot 1 = .closing ∧ t.retire.queue = [3] ∧ t.view? ⟨.payment, 3⟩ = none
      ∧ (t.port .aPort).notices = [Notice.viewVoided ⟨.app 0, 1⟩ .parentVoided] := by
  decide +kernel

theorem test_setPools :
    (run (.setPools .pPort 128 1024) configuring).policy.pReserve = 1024
      ∧ answer (.setPools .pPort 128 1024) .pPort base = some ⟨.locked, []⟩ := by
  decide +kernel

theorem test_setQuota :
    (run (.setQuota .pPort 0x21#8 3#8 9#16) configuring).policy.quota (.app 7) = ⟨3, 9⟩
      ∧ answer (.setQuota .pPort 0x02#8 3#8 9#16) .pPort configuring = some ⟨.badArg, []⟩ := by
  decide +kernel

theorem test_setLine :
    (run (.setLine .pPort 7#8 2#8 1#8) configuring).policy.line 7 = ⟨.tamper, .falling⟩
      ∧ answer (.setLine .nPort 7#8 2#8 1#8) .nPort configuring = some ⟨.notReady, []⟩ := by
  decide +kernel

theorem test_lockPolicy :
    (run (.lockPolicy .pPort) configuring).policy.phase = .running := by
  decide +kernel

/-- The part with the latch set and no GUARDED window. -/
def latched : State := { base with dir.tamper := true, dir.windows := [(1, window1), (3, window3)] }

theorem test_clearTamper :
    (run (.clearTamper .pPort) latched).dir.tamper = false
      ∧ answer (.clearTamper .pPort) .pPort base = some ⟨.busy, []⟩ := by
  decide +kernel

theorem test_frameRejected :
    answer (.frameRejected .pPort (Frame.ofRequest 0x30#8 [0#8])) .pPort base
        = some ⟨.unknown, []⟩
      ∧ answer (.frameRejected .pPort [1#8, 0#8, 0#8, 0#8, 0#8]) .pPort base
        = some ⟨.frame, []⟩ := by
  decide +kernel

theorem test_frameDiscarded :
    answer (.frameDiscarded .pPort [1#8, 0#8]) .pPort (run (.readStatus .pPort) base) = none := by
  decide +kernel

theorem test_deviceReset :
    let t := run (.deviceReset 0x81#8 [⟨0, 3⟩]) base
    t.events.level 7 = true ∧ t.events.level 1 = false ∧ t.window? 1 = none
      ∧ t.policy = Policy.reset ∧ t.retire.state = .startUp 0 .toRequest := by
  decide +kernel

/-- The part just out of reset, with something in its first page. -/
def started : State := { State.reset with xm := ⟨[(3, 9#8), (256, 7#8)], [(0, [4])]⟩ }

theorem test_startupScrubGrant :
    (run .startupScrubGrant started).xm = ⟨[(256, 7#8)], []⟩
      ∧ (run .startupScrubGrant started).retire.state = .startUp 0 .scrubbed := by
  decide +kernel

theorem test_startupPageRelease :
    (run .startupPageRelease (run .startupScrubGrant started)).retire.state
        = .startUp 1 .requested
      ∧ (run .startupPageRelease (run .startupScrubGrant started)).page 0 = .free := by
  decide +kernel

/-- The start-up scrub after its last grant. -/
def lastPage : State := { State.reset with retire.state := .startUp 2047 .scrubbed }

theorem test_scrubEnd :
    let t := run .scrubEnd (run .startupPageRelease lastPage)
    t.policy.phase = .configuring ∧ (t.port .aPort).state = .idle ∧ t.retire.endReport = false := by
  decide +kernel

/-- Window 2 is on the Retire Queue. -/
def queued : State := run (.retireWindow .nPort 1#8) base
def sweeping : State := run .retireTakeHead queued
def scrubbing : State := run .sweep sweeping
def scrubbed : State := run .pageScrubGrant scrubbing
def freeing : State := run .pageRelease scrubbed

theorem test_retireTakeHead :
    (sweeping.window? 2).map Window.state = some .clearing ∧ sweeping.retire.queue = []
      ∧ sweeping.retire.state = .sweeping ⟨2, .radio, .owner, 0, false, .zero, 4⟩ := by
  decide +kernel

theorem test_sweep :
    scrubbing.view? ⟨.payment, 2⟩ = none ∧ scrubbing.page 4 = .scrubbing
      ∧ (scrubbing.port .nPort).notices = [Notice.viewVoided ⟨.radio, 1⟩ .retired]
      ∧ scrubbing.nextGrant = some .retireEngine := by
  decide +kernel

theorem test_pageScrubGrant :
    scrubbed.retire.state = .scrubbing ⟨2, .radio, .owner, 1, false, .zero, 4⟩ .scrubbed
      ∧ scrubbed.lastGranted = .retireEngine := by
  decide +kernel

theorem test_pageRelease :
    freeing.page 4 = .free ∧ freeing.counter .radio = ⟨1, 0⟩
      ∧ freeing.retire.state = .freeing ⟨2, .radio, .owner, 1, false, .zero, 4⟩ := by
  decide +kernel

theorem test_windowFreeing :
    let t := run .windowFreeing freeing
    t.window? 2 = none ∧ t.counter .radio = ⟨0, 0⟩ ∧ t.retire.state = .idle := by
  decide +kernel

theorem test_lineEdge :
    (run (.lineEdge 0 true) base).events.lineEvents = [⟨0, .bindable⟩]
      ∧ (run (.lineEdge 0 true) configuring).events.lineEvents = []
      ∧ (run (.lineEdge 5 true) base).events.levels = [(5, true)] := by
  decide +kernel

def lineWaits : State := run (.lineEdge 0 true) base

theorem test_lineEvent :
    let t := run (.lineEvent 0) lineWaits
    (t.window? 1).map Window.live = some .one ∧ t.retire.queue = [2]
      ∧ (t.window? 2).map Window.cause = some (some .line) := by
  decide +kernel

def tamperWaits : State := run (.lineEdge 1 true) base

theorem test_tamperLineEvent :
    let t := run (.tamperLineEvent 1) tamperWaits
    t.dir.tamper = true ∧ t.retire.queue = [2]
      ∧ (t.port .pPort).notices = [Notice.tamper .payment 1 1] := by
  decide +kernel

theorem test_tickEmit : (run .tickEmit base).events.ticks = 1 := by decide +kernel

def tickWaits : State := run .tickEmit base

theorem test_tick :
    let t := run .tick tickWaits
    t.events.ticks = 0 ∧ (t.window? 1).map Window.cause = some (some .expired)
      ∧ t.retire.queue = [1] := by
  decide +kernel

theorem test_lifetimeExpiry :
    run (.lifetimeExpiry 1) tickWaits = run .tick tickWaits
      ∧ run (.lifetimeExpiry 2) tickWaits = tickWaits := by
  decide +kernel

/-! ### The hypotheses of the statements are met

Each theorem below gives a state and operands that meet together every hypothesis of the statement it
is named after, one conjunct for each clause.
-/

/-- A property of every listed entry holds of what every key holds. -/
theorem forall_at {α : Type} {t : Table α} {p : Nat → α → Prop} (h : ∀ e ∈ t, p e.1 e.2) (k : Nat)
    (x : α) (hk : Table.at? t k = some x) : p k x :=
  h _ (Table.mem_of_at? hk)

/-- A property of every listed view, named by its place, holds of every view in range. -/
theorem forall_view {s : State} {p : ViewId → View → Prop}
    (h : ∀ e ∈ s.dir.views, p (ViewId.ofKey e.1) e.2) (v : ViewId) (x : View) (hv : v.inRange)
    (hx : s.view? v = some x) : p v x := by
  have hlt : v.selector < 32 := lt_of_le_of_lt hv.2 (Holder.selectorRange_lt v.holder)
  have := h _ (Table.mem_of_at? hx)
  rwa [ViewId.ofKey_key v hlt] at this

theorem base_phaseCoherent : PhaseCoherent base := by
  refine ⟨fun i => ?_, fun h => absurd h (by decide), fun h => absurd h (by decide),
    fun h => absurd h (by decide)⟩
  cases i <;> decide

theorem base_workCounted : WorkCounted base :=
  forall_at (t := base.dir.windows)
    (p := fun k w => w.inFlight = base.transfersOn k ∧ w.pinned = base.moveNames k
      ∧ (w.state = .queued ∨ w.state = .clearing → w.quiet = true)) (by decide +kernel)

theorem base_bankRecords (k : Nat) (w : Window) (n : BankNo) (b : Bank)
    (hw : base.window? k = some w) (hb : w.bank? n = some b) :
    b.firstPage + b.pageCount ≤ Config.pageTotal ∧ b.limit ≤ b.pageCount * 256
      ∧ 1 ≤ b.pageCount := by
  have h0 := forall_at (t := base.dir.windows)
    (p := fun _ w => ((w.bank? .zero).all fun b => decide (b.firstPage + b.pageCount ≤ 2048
        ∧ b.limit ≤ b.pageCount * 256 ∧ 1 ≤ b.pageCount)) = true
      ∧ ((w.bank? .one).all fun b => decide (b.firstPage + b.pageCount ≤ 2048
        ∧ b.limit ≤ b.pageCount * 256 ∧ 1 ≤ b.pageCount)) = true) (by decide +kernel) k w hw
  cases n
  · have := h0.1
    rw [hb] at this
    exact of_decide_eq_true this
  · have := h0.2
    rw [hb] at this
    exact of_decide_eq_true this

theorem test_witness_NoCommandStops_WorkStaysAccounted : WorkAccounted base := by
  refine ⟨base_phaseCoherent, fun i => ?_, ⟨?_, ?_, ?_, ?_⟩, base_workCounted, ⟨?_, ?_, ?_⟩,
    ⟨by decide, base_bankRecords, fun i t h => ?_, ?_, ?_, ?_, ?_⟩⟩
  · cases i <;> decide
  · simp [base]
  · simp [base]
  · simp [base]
  · simp [base]
  · simp [base]
  · simp [base]
  · simp [base, RetireState.clearing]
  · cases i <;> simp [base, State.port, Ports.get, idlePort, Port.reset] at h
  · simp [base]
  · simp [base]
  · simp [base]
  · simp [base]

theorem test_witness_GrantTreesKept_TreeWalkPreorder : GrantTrees base := by
  refine ⟨by decide +kernel, fun e he => ⟨ViewId.ofKey e.1, ?_⟩, ?_⟩
  · revert e
    unfold ViewId.inRange
    decide +kernel
  · refine forall_view fun e he => ?_
    have hl : e.2.rights.isEmpty = false ∧ (e.2.root = true → e.2.parent = none ∧ e.2.depth = 0)
        ∧ (e.2.root = false → (e.2.parent.any fun p =>
            decide (1 ≤ p.selector ∧ p.selector ≤ p.holder.selectorRange)
              && (base.view? p).any fun q =>
                decide (q.window = e.2.window ∧ e.2.rights.subset q.rights = true
                  ∧ e.2.depth = q.depth + 1 ∧ e.2.depth ≤ 3)) = true) := by
      revert e
      decide +kernel
    refine ⟨hl.1, hl.2.1, fun hr => ?_⟩
    obtain ⟨p, hp, h⟩ := (Option.any_eq_true _ _).1 (hl.2.2 hr)
    rw [Bool.and_eq_true, decide_eq_true_eq] at h
    obtain ⟨q, hq, h2⟩ := (Option.any_eq_true _ _).1 h.2
    have h3 := of_decide_eq_true h2
    exact ⟨p, q, hp, h.1, hq, h3⟩

theorem test_witness_ViewsStayAnchored : ViewsAnchored base := by
  refine ⟨?_, ?_, by simp [base, RetireState.clearing]⟩
  · refine forall_view fun e he => ?_
    have hl : ((base.window? e.2.window).any fun w =>
        !((ViewId.ofKey e.1).holder.isA && decide (w.cls = .guarded))) = true := by
      revert e
      decide +kernel
    obtain ⟨w, hw, h⟩ := (Option.any_eq_true _ _).1 hl
    exact ⟨w, hw, fun ha hc => by simp [ha, hc] at h⟩
  · intro v u x y hv hu
    have hx := forall_view (s := base)
      (p := fun v x => ∀ e ∈ base.dir.views, v.holder = (ViewId.ofKey e.1).holder →
        x.window = e.2.window → v = ViewId.ofKey e.1) (by decide +kernel) v x hv
    intro hh hvx huy hw
    have hlt : u.selector < 32 := lt_of_le_of_lt hu.2 (Holder.selectorRange_lt u.holder)
    have := hx hvx _ (Table.mem_of_at? huy)
    rw [ViewId.ofKey_key u hlt] at this
    exact this hh hw

theorem test_witness_WindowsStayCoherent : WindowsCoherent base :=
  forall_at (t := base.dir.windows) (p := fun _ (w : Window) => (w.swapPending.isSome = true →
        w.state = .live ∧ w.bank1.isSome = true ∧ w.quiet = false)
      ∧ (w.binding.map Binding.action = some .swap → w.bank1.isSome = true)
      ∧ (w.cause = none ↔ w.state = .live)
      ∧ (w.bank1 = none → w.live = .zero)
      ∧ w.lifetime ≠ some 0) (by decide +kernel)

theorem test_witness_QueuesStayBounded : QueuesBounded noticed := by
  refine ⟨fun i => ?_, by decide, fun i => ?_⟩ <;> cases i <;> decide +kernel

theorem test_witness_DataStaysCanonical : MemoryCanonical base ∧ TablesCanonical base := by
  refine ⟨by unfold MemoryCanonical; decide +kernel, ?_⟩
  unfold TablesCanonical
  refine ⟨by decide +kernel, by decide +kernel, by decide +kernel, by decide +kernel,
    by decide +kernel, by decide +kernel, by decide +kernel, by decide +kernel, fun i => ?_⟩
  cases i <;> decide +kernel

theorem test_witness_LatchStaysShut : LatchShut latched ∧ latched.dir.tamper = true :=
  ⟨fun _ => forall_at (t := latched.dir.windows) (p := fun _ w => w.isLiveGuarded = false)
    (by decide +kernel), rfl⟩

/-- A property of every holder is one of P, of N and of each app slot. -/
theorem forall_holder {p : Holder → Prop} (hp : p .payment) (hn : p .radio)
    (ha : ∀ slot, p (.app slot)) (h : Holder) : p h :=
  match h with
  | .payment => hp
  | .radio => hn
  | .app slot => ha slot

theorem test_witness_QuotasStayRespected :
    (PhaseCoherent base ∧ QuotasRespected base) ∧ TablesCanonical base ∧ CountersHeld base := by
  refine ⟨⟨base_phaseCoherent, fun h => absurd rfl h, ?_⟩, test_witness_DataStaysCanonical.2, ?_,
    fun r h => by simp [base, RetireState.record] at h⟩
  · exact forall_holder (by decide +kernel) (by decide +kernel) (by decide +kernel)
  · exact forall_holder (by decide +kernel) (by decide +kernel) (by decide +kernel)

theorem test_witness_RetireTakenAndSwept_rootSelector :
    base.view? ⟨.app 1, 1⟩ = some ⟨3, noSwap, true, none, 0⟩
      ∧ rootSelector base.dir.views 3 = 1 ∧ rootSelector base.dir.views 9 = 0
      ∧ (∀ e ∈ base.dir.views, e.2.window ≠ 9) := by
  decide +kernel

/-- The place of the root of each window of `base`. -/
def rootOf (k : Nat) : ViewId :=
  if k = 1 then ⟨.payment, 1⟩ else if k = 2 then ⟨.radio, 1⟩ else ⟨.app 1, 1⟩

/-- Window 3 has one root, whose subtree is its walk. -/
theorem test_witness_TreeWalkPreorder_root :
    Table.at? base.dir.views 1057 = some ⟨3, noSwap, true, none, 0⟩
      ∧ (∀ e ∈ base.dir.views, e.2.window = 3 → e.2.root = true → e.1 = 1057)
      ∧ windowWalk base.dir.views 3 = [1057, 3, 1025] := by
  decide +kernel

theorem test_witness_GrantTreesKept_roots :
    GrantTrees base ∧ ViewsAnchored base ∧ RootsHeld base := by
  refine ⟨test_witness_GrantTreesKept_TreeWalkPreorder, test_witness_ViewsStayAnchored,
    forall_view (by decide +kernel), fun k w hw hl => ⟨rootOf k, ?_, ?_⟩⟩
  · have h := forall_at (t := base.dir.windows) (p := fun k _ =>
      (1 ≤ (rootOf k).selector ∧ (rootOf k).selector ≤ (rootOf k).holder.selectorRange)
        ∧ ((base.view? (rootOf k)).any fun x => decide (x.window = k) && x.root) = true)
      (by decide +kernel) k w hw
    obtain ⟨x, hx, hk⟩ := (Option.any_eq_true _ _).1 h.2
    rw [Bool.and_eq_true, decide_eq_true_eq] at hk
    exact ⟨h.1, x, hx, hk⟩
  · rintro v ⟨hv, x, hx, hk, hr⟩
    have h := forall_view (s := base) (p := fun v x => x.root = true → v = rootOf x.window)
      (by decide +kernel) v x hv hx hr
    rwa [hk] at h

theorem base_pageMap (p k : Nat) (n : BankNo) :
    base.page p = .allocated k n ↔
      ∃ w b, base.window? k = some w ∧ w.bank? n = some b
        ∧ b.firstPage ≤ p ∧ p < b.firstPage + b.pageCount ∧ base.stillHeld k n p := by
  constructor
  · intro h
    obtain ⟨x, hx, rfl⟩ : ∃ x, Table.at? base.alloc.pages p = some x ∧ x = .allocated k n := by
      unfold State.page Table.value at h
      cases hx : Table.at? base.alloc.pages p with
      | none => rw [hx] at h; cases h
      | some x => rw [hx] at h; exact ⟨x, rfl, h⟩
    have hl := forall_at (t := base.alloc.pages) (p := fun p x =>
      (match x with
       | .allocated k n => (base.window? k).any fun w => (w.bank? n).any fun b =>
           decide (b.firstPage ≤ p ∧ p < b.firstPage + b.pageCount)
       | .free => true
       | .scrubbing => true) = true) (by decide +kernel) p _ hx
    obtain ⟨w, hw, h1⟩ := (Option.any_eq_true _ _).1 hl
    obtain ⟨b, hb, h2⟩ := (Option.any_eq_true _ _).1 h1
    have h3 := of_decide_eq_true h2
    exact ⟨w, b, hw, hb, h3.1, h3.2, trivial⟩
  · rintro ⟨w, b, hw, hb, hlo, hhi, -⟩
    have hl := forall_at (t := base.dir.windows) (p := fun k w =>
      ∀ m ∈ [BankNo.zero, .one], ((w.bank? m).all fun b => decide (∀ j < b.pageCount,
        base.page (b.firstPage + j) = .allocated k m)) = true) (by decide +kernel) k w hw n
      (by cases n <;> decide)
    rw [hb] at hl
    have := of_decide_eq_true hl (p - b.firstPage) (by omega)
    rwa [Nat.add_sub_cancel' hlo] at this

theorem test_witness_WorkStaysAccounted_pages :
    MemoryCanonical base ∧ WorkAccounted base ∧ PagesHeld base := by
  refine ⟨test_witness_DataStaysCanonical.1, test_witness_NoCommandStops_WorkStaysAccounted,
    base_pageMap, fun p hp a j ha hj => ?_, ?_, ?_⟩
  · have hn : Table.at? base.xm.cells a = none := by
      cases h : Table.at? base.xm.cells a with
      | none => rfl
      | some v =>
        exact absurd (ha ▸ hp) (forall_at (t := base.xm.cells)
          (p := fun a _ => base.page (a / 256) ≠ .free) (by decide +kernel) a v h)
    have hb : base.xm.byte a = 0#8 := by unfold Memory.byte Table.value; rw [hn]; rfl
    rw [hb]
    simp [Memory.disturbed, Table.value, base]
  · simp [base]
  · simp [base]

theorem test_witness_ApplicationsStayUnmarked :
    WorkAccounted base ∧ ViewsAnchored base ∧ ApplicationUnmarked base :=
  ⟨test_witness_NoCommandStops_WorkStaysAccounted, test_witness_ViewsStayAnchored, rfl, by
    simp [base, idlePort, Port.reset]⟩

/-- The part with a READ STATUS at the front of the queue steps, as the statements of what every step
keeps ask. -/
theorem test_witness_steps :
    ∃ t, step (base.withFront (.readStatus .pPort)) = .next t := ⟨_, rfl⟩

theorem test_witness_StepRunsFrontCommand : base.pending = [] := rfl

/-- N has asked for a port reset while its PUT waits. -/
def resetWaits : State := run (.portReset .nPort) putWaits

theorem test_witness_BusyRule :
    (PassesFrame (.move .pPort moveParams) .pPort
        ∧ (State.reset.port .pPort).state = .notReady)
      ∧ (PassesFrame (.clearStaging .nPort) .nPort ∧ (putWaits.port .nPort).state = .executing)
      ∧ (PassesFrame (.selectApp .aPort 0#8) .aPort ∧ (base.port .aPort).state = .idle) :=
  ⟨⟨⟨_, _, rfl, by decide +kernel⟩, rfl⟩, ⟨⟨_, _, rfl, by decide +kernel⟩, by decide +kernel⟩,
    ⟨_, _, rfl, by decide +kernel⟩, rfl⟩

theorem test_witness_BusyRule_resetting :
    PassesFrame (.clearStaging .nPort) .nPort ∧ (resetWaits.port .nPort).state = .resetting :=
  ⟨⟨_, _, rfl, by decide +kernel⟩, by decide +kernel⟩

theorem test_witness_ReadNoticeTakesOldest :
    (noticed.port .pPort).state ≠ .notReady
      ∧ (noticed.port .pPort).notices = Notice.swapDone ⟨.payment, 1⟩ .line .one 300 :: []
      ∧ (noticed.port .nPort).state ≠ .notReady ∧ (noticed.port .nPort).notices = [] := by
  decide +kernel

theorem test_witness_PortResetActsOrWaits :
    (base.port .nPort).state = .idle ∧ (putWaits.port .nPort).state = .executing
      ∧ (resetWaits.port .nPort).state = .resetting
      ∧ (State.reset.port .nPort).state = .notReady := by
  decide +kernel

theorem test_witness_BadFramesChangeNothing :
    Frame.judge .pPort [1#8, 0#8, 0#8, 0#8, 0#8] = .frame
      ∧ Frame.judge .pPort (Frame.ofRequest 0x32#8 [1#8]) = .unknown
      ∧ Frame.judge .pPort [1#8, 0#8, 0#8, 0#8] = .incomplete := by
  decide +kernel

theorem test_witness_AttentionFollowsQueue :
    (noticed.port .pPort).state ≠ .notReady
      ∧ (noticed.port .pPort).notices = [Notice.swapDone ⟨.payment, 1⟩ .line .one 300]
      ∧ (∃ t, exec (.readNotice .pPort) noticed = .next t) :=
  ⟨by decide +kernel, by decide +kernel, ⟨_, rfl⟩⟩

theorem test_witness_LoadStagingWritesColumns_ReadStaging_ClearStaging :
    (base.port .nPort).state = .idle ∧ [7#8, 8#8].length = (2#16).toNat
      ∧ (2#16).toNat ≠ 0 ∧ (510#16).toNat + (2#16).toNat ≤ 512
      ∧ 512 < (511#16).toNat + (2#16).toNat ∧ [7#8].length ≠ (2#16).toNat := by
  decide +kernel

theorem test_witness_TransferAdmission :
    (base.port .nPort).state = .idle
      ∧ firstFailure (transferChecks .put .nPort putParams staged) = some .classRefused
      ∧ firstFailure (transferChecks .fetch .nPort { putParams with bank := 1#8 } base)
        = some .rights
      ∧ firstFailure (transferChecks .put .nPort putParams base) = none
      ∧ firstFailure (transferChecks .fetch .pPort fetchParams base) = none
      ∧ base.viewAt (base.caller .nPort) putParams.selector
        = some ⟨1, readWrite, false, some ⟨.payment, 1⟩, 1⟩
      ∧ base.window? 1 = some window1
      ∧ window1.addressed putParams.bank = some (.zero, ⟨0, 2, 512⟩) := by
  decide +kernel

theorem test_witness_PutGrantWritesRange_FetchGrantReadsRange :
    putWaits.nextGrant = some (.port .nPort)
      ∧ (putWaits.port .nPort).transfer = some ⟨.put, 1, .zero, 8, 0, 4⟩
      ∧ (putWaits.window? 1).bind (fun w => w.bank? .zero) = some ⟨0, 2, 512⟩
      ∧ 0 * 256 + 8 + 4 ≤ 524288
      ∧ fetchWaits.nextGrant = some (.port .pPort)
      ∧ (fetchWaits.port .pPort).transfer = some ⟨.fetch, 1, .zero, 0, 0, 4⟩
      ∧ (fetchWaits.window? 1).bind (fun w => w.bank? .zero) = some ⟨0, 2, 512⟩ := by
  decide +kernel

/-- The granted PUT of a port whose reset waits. -/
def resetDone : State := run (.putGrant .nPort []) resetWaits

theorem test_witness_CompletionEndsTransfer :
    (fetchDone.port .pPort).state = .executing
      ∧ (fetchDone.port .pPort).transfer = some ⟨.fetch, 1, .zero, 0, 0, 4⟩
      ∧ (fetchDone.port .pPort).completion = some ⟨0, 1⟩ ∧ (fetchDone.window? 1).isSome = true
      ∧ (resetDone.port .nPort).state = .resetting
      ∧ (resetDone.port .nPort).transfer = some ⟨.put, 1, .zero, 8, 0, 4⟩
      ∧ (resetDone.port .nPort).completion = some ⟨0, 0⟩ := by
  decide +kernel

theorem test_witness_CompletionEndsTransfer_reset :
    ∃ u, exec (.transferCompletion .nPort)
      (resetDone.setPort .nPort { resetDone.port .nPort with state := .executing }) = .next u :=
  ⟨_, rfl⟩

theorem test_witness_WordsTouchedAndJudged : base.xm.disturbed 0 = [] ∧ base.xm.disturbed 65535 = [] := by
  decide +kernel

theorem test_witness_RequestsWaitForGrant_RoundRobinBounded :
    putWaits.requests (.port .nPort) = true ∧ scrubbing.requests .retireEngine = true
      ∧ moveStarted.requests .moveEngine = true := by
  decide +kernel

/-- The requester last granted changes to the one that was next. -/
theorem test_grant_order :
    putWaits.lastGranted = .retireEngine ∧ putWaits.nextGrant = some (.port .nPort)
      ∧ (run (.putGrant .nPort []) putWaits).lastGranted = .port .nPort := by
  decide +kernel

theorem test_witness_PlacementIsFirstFit :
    searchPools base.pageFree (base.policy.pools .payment) 2 = some 6
      ∧ searchPools base.pageFree (base.policy.pools .payment) 5 = none := by
  decide +kernel

theorem test_witness_OpenWindowOpens :
    firstFailure (openChecks .pPort openParams base) = none
      ∧ firstFailure (openChecks .pPort { openParams with line := 1#8 } base) = some .badArg
      ∧ base.window? 4 = none ∧ (∀ j < 4, 1 ≤ j → (base.window? j).isSome = true)
      ∧ base.view? ⟨.payment, 4⟩ = none
      ∧ (∀ j < 4, 1 ≤ j → (base.view? ⟨.payment, j⟩).isSome = true)
      ∧ base.place .payment (openPages0 openParams) (openPages1 openParams) = some (6, some 8) := by
  decide +kernel

theorem test_witness_OwnerCommandsAct :
    firstFailure (ownerChecks .pPort 1#8 base) = none
      ∧ base.viewAt (base.caller .pPort) 1#8 = some ⟨1, all, true, none, 0⟩
      ∧ base.window? 1 = some window1
      ∧ firstFailure (ownerChecks .nPort 2#8 base) = some .notOwner := by
  decide +kernel

theorem test_witness_StageLimitSetsShadow :
    firstFailure (stageChecks .pPort 1#8 512#24 base) = none
      ∧ window1.addressed 0x01#8 = some (.one, ⟨2, 2, 300⟩)
      ∧ firstFailure (stageChecks .pPort 1#8 516#24 base) = some .badArg
      ∧ firstFailure (stageChecks .pPort 1#8 512#24 putWaits) = some .windowBusy := by
  decide +kernel

theorem test_witness_SwapBanksExchanges :
    firstFailure (swapChecks .pPort 1#8 base) = none ∧ window1.quiet = true
      ∧ firstFailure (swapChecks .pPort 1#8 putWaits) = none
      ∧ (putWaits.window? 1).map Window.quiet = some false
      ∧ firstFailure (swapChecks .nPort 2#8 base) = some .rights := by
  decide +kernel

theorem test_witness_GrantViewCreatesChild :
    firstFailure (grantChecks .pPort 1#8 0x20#8 1#8 base) = none
      ∧ Holder.ofCode? 0x20 = some (.app 0) ∧ base.view? ⟨.app 0, 2⟩ = none
      ∧ (base.view? ⟨.app 0, 1⟩).isSome = true
      ∧ firstFailure (grantChecks .nPort 1#8 0x21#8 1#8 base) = some .classRefused := by
  decide +kernel

theorem test_witness_NarrowViewIntersects :
    GrantTrees base ∧ isAncestor base.dir.views 33 Config.treeDepth 2 = true
      ∧ isAncestor base.dir.views 2 Config.treeDepth 33 = false
      ∧ firstFailure (narrowChecks .nPort 1#8 0#8 2#8 0#8 base) = none
      ∧ Holder.ofCode? 0 = some .payment
      ∧ firstFailure (narrowChecks .pPort 1#8 0#8 2#8 0#8 base) = some .notAncestor :=
  ⟨test_witness_GrantTreesKept_TreeWalkPreorder, by decide +kernel⟩

theorem test_witness_DropViewVoidsSubtree :
    firstFailure (dropChecks .pPort 2#8 base) = none
      ∧ firstFailure (dropChecks .pPort 1#8 base) = some .badArg
      ∧ ViewId.key ⟨base.caller .pPort, 2⟩ = 2 := by
  decide +kernel

theorem test_witness_DescribeViewAnswers :
    firstFailure (viewChecks base (base.caller .nPort) 2#8) = none
      ∧ base.viewAt .radio 2#8 = some ⟨1, readWrite, false, some ⟨.payment, 1⟩, 1⟩
      ∧ firstFailure (viewChecks base (base.caller .nPort) 31#8) = some .stale
      ∧ firstFailure (viewChecks base (base.caller .nPort) 32#8) = some .badArg := by
  decide +kernel

theorem test_witness_SlotsSelectedAndOpened :
    PortId.pPort ≠ .aPort ∧ (base.port .aPort).state = .idle ∧ 31 < (32#8).toNat
      ∧ (0#8).toNat = base.ports.acting.val ∧ (31#8).toNat ≤ 31
      ∧ (31#8).toNat ≠ base.ports.acting.val
      ∧ firstFailure (openSlotChecks 2#8 base) = none
      ∧ firstFailure (openSlotChecks 1#8 base) = some .badArg := by
  decide +kernel

theorem test_witness_CloseSlotTearsDown :
    GrantTrees base ∧ ViewsAnchored base ∧ firstFailure (closeSlotChecks 1#8 base) = none ∧ Table.rising base.dir.windows = true
      ∧ firstFailure (closeSlotChecks 2#8 base) = some .badArg
      ∧ Holder.app 1 = .app (Fin.ofNat 32 (1#8).toNat) :=
  ⟨test_witness_GrantTreesKept_TreeWalkPreorder, test_witness_ViewsStayAnchored, by decide +kernel⟩

theorem test_witness_PolicySetAndLocked :
    (configuring.port .pPort).state = .idle
      ∧ firstFailure (policyChecks .pPort false configuring) = none
      ∧ firstFailure (policyChecks .pPort true configuring) = some .badArg
      ∧ firstFailure (policyChecks .pPort false base) = some .locked := by
  decide +kernel

theorem test_witness_ClearTamperClears :
    firstFailure (clearTamperChecks .pPort latched) = none
      ∧ firstFailure (clearTamperChecks .pPort base) = some .busy
      ∧ (latched.port .pPort).state = .idle := by
  decide +kernel

theorem test_witness_LineEdgeDelivers : base.events.level 0 ≠ true := by decide +kernel

theorem test_witness_LineEventActs_TamperEventActs :
    Table.rising lineWaits.dir.windows = true
      ∧ lineWaits.events.lineEvents = [] ++ ⟨0, .bindable⟩ :: []
      ∧ tamperWaits.events.lineEvents = [] ++ ⟨1, .tamper⟩ :: []
      ∧ windowsWhere tamperWaits.dir.windows (fun w => w.isLive && decide (w.cls = .guarded)) = [2] := by
  decide +kernel

theorem test_witness_TicksLowerLifetimes :
    WindowsCoherent tickWaits ∧ Table.rising tickWaits.dir.windows = true
      ∧ tickWaits.events.ticks ≠ 0 ∧ tickWaits.window? 1 = some window1
      ∧ window1.isLive = true ∧ window1.lifetime = some 1 :=
  ⟨test_witness_WindowsStayCoherent, by decide +kernel, by decide +kernel, by decide +kernel,
    by decide, rfl⟩

theorem test_witness_MoveQueuedAndTaken :
    firstFailure (moveChecks .pPort moveParams base) = none
      ∧ MoveMode.ofBytes? 0#8 0#8 = some .copy
      ∧ firstFailure (moveChecks .pPort { moveParams with count := 9#24 } base) = some .align
      ∧ moveWaits.move.state = .idle ∧ moveWaits.move.queue ≠ [] := by
  decide +kernel

/-- P has reset its port after its move was taken from the queue. -/
def moveMarked : State := run (.portReset .pPort) moveTaken

theorem test_witness_StartCheckStartsOrEnds_movesCoherent : MovesCoherent moveTaken := by
  refine ⟨⟨fun _ => ⟨_, _, rfl, by decide +kernel⟩, fun _ => by decide +kernel⟩,
    by decide +kernel, fun _ r hr => ?_, by decide +kernel⟩
  revert r
  decide +kernel

theorem test_witness_StartCheckStartsOrEnds :
    moveTaken.move.state = .startCheck
      ∧ (moveTaken.move.queue.head?.map fun r =>
          (firstFailure (startChecks moveTaken r), r.resetMark, r.resolved))
        = some (none, false, none)
      ∧ (moveMarked.move.queue.head?.map fun r =>
          (firstFailure (startChecks moveMarked r), r.resetMark)) = some (none, true)
      ∧ (moveTaken.move.queue.head?.map fun r =>
          firstFailure (startChecks { moveTaken with dir.windows := [] } r)) = some (some .stale)
      ∧ moveTaken.view? ⟨.payment, 1⟩ = some ⟨1, all, true, none, 0⟩
      ∧ moveTaken.window? 1 = some window1
      ∧ moveTaken.view? ⟨.payment, 3⟩ = some ⟨3, readWrite, false, some ⟨.app 1, 1⟩, 1⟩
      ∧ moveTaken.window? 3 = some window3 := by
  decide +kernel

theorem test_witness_PatternReadFillsStore :
    fillStarted.nextGrant = some .moveEngine ∧ fillStarted.move.state = .pattern
      ∧ (fillStarted.move.queue.head?.map fun r => (r.resolved, r.mode, r.srcOffset))
        = some (some ⟨1, .zero, 3, .zero⟩, .fill 4, 0)
      ∧ (fillStarted.window? 1).bind (fun w => w.bank? .zero) = some ⟨0, 2, 512⟩
      ∧ (fillStarted.xm.disturb []).countUncorrectable (touchedWords 0 4) = 0
      ∧ (fillStarted.xm.disturb [⟨0, 1⟩, ⟨0, 2⟩]).countUncorrectable (touchedWords 0 4) = 1 := by
  decide +kernel

theorem test_witness_ChunkCheckConfirms :
    fillRead.move.state = .chunkCheck
      ∧ (fillRead.move.queue.head?.map fun r =>
          r.resolved.map (chunkCheckFails fillRead r)) = some (some false)
      ∧ (fillRead.move.queue.head?.map fun r =>
          r.resolved.map (chunkCheckFails { fillRead with dir.views := [] } r))
        = some (some true) := by
  decide +kernel

theorem test_witness_CopyChunkMovesBytes :
    moveStarted.nextGrant = some .moveEngine ∧ moveStarted.move.state = .chunkGrant
      ∧ (moveStarted.move.queue.head?.map fun r =>
          (r.resolved, r.mode, r.progress, r.count, r.srcOffset, r.dstOffset))
        = some (some ⟨1, .zero, 3, .zero⟩, .copy, 0, 8, 0, 5)
      ∧ (moveStarted.window? 1).bind (fun w => w.bank? .zero) = some ⟨0, 2, 512⟩
      ∧ (moveStarted.window? 3).bind (fun w => w.bank? .zero) = some ⟨5, 1, 200⟩
      ∧ (moveStarted.xm.disturb []).countUncorrectable (touchedWords 0 8) = 0
      ∧ (moveStarted.xm.disturb [⟨0, 1⟩, ⟨0, 2⟩]).countUncorrectable (touchedWords 0 8) = 1 := by
  decide +kernel

def fillChecked : State := run .chunkCheck fillRead

theorem test_witness_FillChunkWritesPattern :
    fillChecked.nextGrant = some .moveEngine ∧ fillChecked.move.state = .chunkGrant
      ∧ (fillChecked.move.queue.head?.map fun r => (r.resolved.isSome, r.mode, r.progress, r.count))
        = some (true, .fill 4, 0, 8)
      ∧ (fillChecked.window? 3).bind (fun w => w.bank? .zero) = some ⟨5, 1, 200⟩
      ∧ 5 * 256 + 5 + 0 + 8 ≤ 524288 := by
  decide +kernel

theorem test_witness_MoveEndReleases :
    moveCopied.move.state = .moveEnd false ∧ moveCopied.move.queue ≠ []
      ∧ (run (.moveChunkGrant [⟨0, 1⟩, ⟨0, 2⟩]) moveStarted).move.state = .moveEnd true
      ∧ (run (.moveChunkGrant [⟨0, 1⟩, ⟨0, 2⟩]) moveStarted).move.queue ≠ [] := by
  decide +kernel

theorem test_witness_RetireTakenAndSwept :
    queued.retire.state = .idle ∧ queued.retire.queue = [2]
      ∧ (queued.window? 2).bind Window.cause = some .owner
      ∧ sweeping.retire.state = .sweeping ⟨2, .radio, .owner, 0, false, .zero, 4⟩
      ∧ (sweeping.window? 2).isSome = true ∧ Table.rising sweeping.dir.views = true := by
  decide +kernel

theorem test_witness_PagesScrubbedInOrder :
    scrubbing.retire.state = .scrubbing ⟨2, .radio, .owner, 1, false, .zero, 4⟩ .requested
      ∧ scrubbing.nextGrant = some .retireEngine ∧ 4 < 2048
      ∧ scrubbed.retire.state = .scrubbing ⟨2, .radio, .owner, 1, false, .zero, 4⟩ .scrubbed
      ∧ (scrubbed.window? 2).bind (fun w => w.bank? .zero) = some ⟨4, 1, 256⟩ := by
  decide +kernel

/-- Window 1 is being scrubbed, its page `page` of bank `n` just written. -/
def scrubbedAt (n : BankNo) (page : Nat) : State :=
  { base with retire.state := .scrubbing ⟨1, .payment, .owner, 1, false, n, page⟩ .scrubbed }

/-- The release asks for the next page, for bank 1, and for the freeing. -/
theorem test_pageRelease_order :
    (run .pageRelease (scrubbedAt .zero 0)).retire.state
        = .scrubbing ⟨1, .payment, .owner, 1, false, .zero, 1⟩ .requested
      ∧ (run .pageRelease (scrubbedAt .zero 1)).retire.state
        = .scrubbing ⟨1, .payment, .owner, 1, false, .one, 2⟩ .requested
      ∧ (run .pageRelease (scrubbedAt .one 3)).retire.state
        = .freeing ⟨1, .payment, .owner, 1, false, .one, 3⟩ := by
  decide +kernel

/-- The last window of the CLOSING slot 1 is about to be freed. -/
def lastOfSlot : State :=
  { base with
    dir.slots := [(1, .closing)]
    retire.state := .freeing ⟨3, .app 1, .slotClosed, 0, false, .zero, 5⟩ }

theorem test_witness_FreeingEndsRetirement :
    freeing.retire.state = .freeing ⟨2, .radio, .owner, 1, false, .zero, 4⟩
      ∧ lastOfSlot.retire.state = .freeing ⟨3, .app 1, .slotClosed, 0, false, .zero, 5⟩
      ∧ lastOfSlot.slot 1 = .closing
      ∧ (lastOfSlot.dir.windows.any fun e => decide (e.1 ≠ 3 ∧ e.2.owner = .app 1)) = false
      ∧ (run .windowFreeing lastOfSlot).slot 1 = .closed := by
  decide +kernel

theorem test_witness_StartupScrubRuns :
    State.reset.retire.state = .startUp 0 .toRequest ∧ 0 < 2048
      ∧ (∀ r, r ≠ .retireEngine → State.reset.requests r = false)
      ∧ lastPage.retire.state = .startUp 2047 .scrubbed ∧ 2047 < 2048
      ∧ (run .startupPageRelease lastPage).retire.endReport = true := by
  refine ⟨rfl, by decide, fun r hr => ?_, rfl, by decide, by decide +kernel⟩
  rcases r with (_ | _ | _) | _ | _
  · decide +kernel
  · decide +kernel
  · decide +kernel
  · decide +kernel
  · exact absurd rfl hr

theorem test_witness_FrameRoundTrip :
    PassesFrame (.loadStaging .nPort 510 2 [7#8, 8#8]) .nPort
      ∧ (Instr.loadStaging .nPort 510 2 [7#8, 8#8]).request
        = some (.nPort, 0x08#8, [1#8, 0xFE#8, 0#8, 2#8, 7#8, 8#8])
      ∧ [0#8, 0#8] ≠ Frame.bytes2 (Frame.crc16
          ((Frame.ofRequest 0x08#8 [1#8, 0xFE#8, 0#8, 2#8, 7#8, 8#8]).dropLast.dropLast)) :=
  ⟨⟨_, _, rfl, by decide +kernel⟩, by decide +kernel, by decide +kernel⟩

end Sys2Proof.Tests
end

section
/-! SUPPORT. What the commands and events do to windows and to the work in flight, said once. A window
changes in one of a few ways (`Window.Change`); an event of the Directory is a run of such changes, with
the requests of the Move Queue that join it or leave it (`State.Leads`).
-/

namespace Sys2Proof.Machine

/-! ### States alike in all that counts -/

/-- The two states hold the same windows, tamper latch, pages, memory, moves, retirement, phase, reserves,
port states and transfers. Views, slots, staging buffers, notices, responses and lines may differ. -/
structure SameWork (s t : State) : Prop where
  window : ∀ k, t.window? k = s.window? k
  tamper : t.dir.tamper = s.dir.tamper
  page : ∀ p, t.page p = s.page p
  xm : t.xm = s.xm
  move : t.move = s.move
  retire : t.retire = s.retire
  phase : t.policy.phase = s.policy.phase
  nReserve : t.policy.nReserve = s.policy.nReserve
  pReserve : t.policy.pReserve = s.policy.pReserve
  portState : ∀ i, (t.port i).state = (s.port i).state
  transfer : ∀ i, (t.port i).transfer = (s.port i).transfer
  completion : ∀ i, (t.port i).completion = (s.port i).completion

@[refl] theorem SameWork.refl (s : State) : SameWork s s :=
  ⟨fun _ => rfl, rfl, fun _ => rfl, rfl, rfl, rfl, rfl, rfl, rfl, fun _ => rfl, fun _ => rfl, fun _ => rfl⟩

@[symm] theorem SameWork.symm {s t : State} (h : SameWork s t) : SameWork t s where
  window k := (h.window k).symm
  tamper := h.tamper.symm
  page p := (h.page p).symm
  xm := h.xm.symm
  move := h.move.symm
  retire := h.retire.symm
  phase := h.phase.symm
  nReserve := h.nReserve.symm
  pReserve := h.pReserve.symm
  portState i := (h.portState i).symm
  transfer i := (h.transfer i).symm
  completion i := (h.completion i).symm

@[trans] theorem SameWork.trans {s t u : State} (h : SameWork s t) (g : SameWork t u) : SameWork s u where
  window k := (g.window k).trans (h.window k)
  tamper := g.tamper.trans h.tamper
  page p := (g.page p).trans (h.page p)
  xm := g.xm.trans h.xm
  move := g.move.trans h.move
  retire := g.retire.trans h.retire
  phase := g.phase.trans h.phase
  nReserve := g.nReserve.trans h.nReserve
  pReserve := g.pReserve.trans h.pReserve
  portState i := (g.portState i).trans (h.portState i)
  transfer i := (g.transfer i).trans (h.transfer i)
  completion i := (g.completion i).trans (h.completion i)

/-- States that differ in no part that counts, the ports being the same. -/
theorem SameWork.of_parts {s t : State} (hw : t.dir.windows = s.dir.windows)
    (ht : t.dir.tamper = s.dir.tamper) (hp : t.ports = s.ports)
    (ha : t.alloc.pages = s.alloc.pages) (hx : t.xm = s.xm) (hm : t.move = s.move)
    (hr : t.retire = s.retire) (hphase : t.policy.phase = s.policy.phase)
    (hnr : t.policy.nReserve = s.policy.nReserve) (hpr : t.policy.pReserve = s.policy.pReserve) :
    SameWork s t where
  window k := by simp only [State.window?, hw]
  tamper := ht
  page p := by simp only [State.page, ha]
  xm := hx
  move := hm
  retire := hr
  phase := hphase
  nReserve := hnr
  pReserve := hpr
  portState i := by simp only [State.port, hp]
  transfer i := by simp only [State.port, hp]
  completion i := by simp only [State.port, hp]

/-- A port may change in all but its state, its transfer and its completion. -/
theorem sameWork_setPort (s : State) (i : PortId) (x : Port) (h1 : x.state = (s.port i).state)
    (h2 : x.transfer = (s.port i).transfer) (h3 : x.completion = (s.port i).completion) :
    SameWork s (s.setPort i x) where
  window _ := rfl
  tamper := rfl
  page _ := rfl
  xm := rfl
  move := rfl
  retire := rfl
  phase := rfl
  nReserve := rfl
  pReserve := rfl
  portState j := by rw [State.port_setPort]; split <;> simp_all
  transfer j := by rw [State.port_setPort]; split <;> simp_all
  completion j := by rw [State.port_setPort]; split <;> simp_all

theorem sameWork_answer (s : State) (i : PortId) (code : ResultCode) (detail : List Byte) :
    SameWork s (s.answer i code detail) := sameWork_setPort s i _ rfl rfl rfl

theorem sameWork_reply (s : State) (i : PortId) (code : ResultCode) :
    SameWork s (s.reply i code) := sameWork_answer s i code []

theorem sameWork_postAll (s : State) (ns : List Notice) : SameWork s (s.postAll ns) where
  window _ := rfl
  tamper := rfl
  page _ := rfl
  xm := rfl
  move := rfl
  retire := rfl
  phase := rfl
  nReserve := rfl
  pReserve := rfl
  portState i := s.port_postAll_state ns i
  transfer i := s.port_postAll_transfer ns i
  completion i := s.port_postAll_completion ns i

theorem sameWork_post (s : State) (n : Notice) : SameWork s (s.post n) := sameWork_postAll s [n]

/-- The View Table may be any. -/
theorem sameWork_views (s : State) (views : Table View) :
    SameWork s { s with dir.views := views } :=
  .of_parts rfl rfl rfl rfl rfl rfl rfl rfl rfl rfl

/-- The Event Unit may be any. -/
theorem sameWork_events (s : State) (e : EventUnit) : SameWork s { s with events := e } :=
  .of_parts rfl rfl rfl rfl rfl rfl rfl rfl rfl rfl

/-- The requester granted last may be any. -/
theorem sameWork_lastGranted (s : State) (r : Requester) : SameWork s { s with lastGranted := r } :=
  .of_parts rfl rfl rfl rfl rfl rfl rfl rfl rfl rfl

/-- The quota pairs and the lines of the policy may be any. -/
theorem sameWork_policy (s : State) (x : Policy) (h1 : x.phase = s.policy.phase)
    (h2 : x.nReserve = s.policy.nReserve) (h3 : x.pReserve = s.policy.pReserve) :
    SameWork s { s with policy := x } := .of_parts rfl rfl rfl rfl rfl rfl rfl h1 h2 h3

theorem sameWork_setSlot (s : State) (n : Nat) (x : SlotState) : SameWork s (s.setSlot n x) :=
  .of_parts rfl rfl rfl rfl rfl rfl rfl rfl rfl rfl

theorem sameWork_completeClose (s : State) (slot : Nat) : SameWork s (s.completeClose slot) :=
  (sameWork_setSlot s slot .closed).trans (sameWork_post _ _)

/-! ### The changes of one window -/

/-- The changes of one window that leave its in-flight count, its pin and its pages: `joins` says whether
the window joins the Retire Queue with it. -/
inductive Window.Change (w : Window) : Bool → Window → Prop
  /-- R17, R18: a lifetime is never 0. -/
  | lifetime (l : Option Nat) (h : l ≠ some 0) : w.Change false { w with lifetime := l }
  /-- R65: the banks of a LIVE two-bank window are exchanged. -/
  | exchanged (hl : w.isLive = true)
      (hb : w.bank1.isSome = true ∨ w.binding.map Binding.action = some .swap) :
      w.Change false { w with live := w.live.other, swapPending := none }
  /-- R68: an exchange is pending on a LIVE two-bank window that is not quiet. -/
  | pending (source : SwapSource) (hl : w.isLive = true) (hq : w.quiet = false)
      (hb : w.bank1.isSome = true ∨ w.binding.map Binding.action = some .swap) :
      w.Change false { w with swapPending := some source }
  /-- R74: the limit of the shadow bank, inside its pages. -/
  | limited (b : Bank) (limit : Nat) (h1 : w.bank1.isSome = true) (hb : w.bank? w.live.other = some b)
      (hl : limit ≤ b.pageCount * 256) :
      w.Change false (w.setBank w.live.other { b with limit := limit })
  /-- R20. -/
  | damaged : w.Change false { w with damaged := true }
  /-- R79: retirement begins on a LIVE window. -/
  | retired (cause : RetireCause) (hl : w.isLive = true) : w.Change w.quiet (w.retired cause)

/-- The part with one window written, which joins the Retire Queue where `joins` says so. -/
def State.putQueued (s : State) (k : Nat) (w : Window) (joins : Bool) : State :=
  { s.putWindow k w with retire.queue := s.retire.queue ++ if joins then [k] else [] }

theorem State.putQueued_false (s : State) (k : Nat) (w : Window) :
    s.putQueued k w false = s.putWindow k w := by
  simp [State.putQueued, State.putWindow]

theorem State.window?_putQueued (s : State) (k j : Nat) (w : Window) (joins : Bool) :
    (s.putQueued k w joins).window? j = if k = j then some w else s.window? j :=
  State.window?_putWindow ..

/-- The beginning of retirement on a LIVE window (R79). -/
theorem State.beginRetirement_live {s : State} {k : Nat} {w : Window} (cause : RetireCause)
    (hw : s.window? k = some w) (hl : w.isLive = true) :
    s.beginRetirement k cause = s.putQueued k (w.retired cause) w.quiet := by
  simp [State.beginRetirement_eq, hw, hl, State.putQueued]

/-! ### The requests that leave the Move Queue and those that stay -/

/-- What a port reset or the close of a slot makes of the Move Queue (R128, R129): requests that wait may
leave, and those that stay may take a mark. -/
def prunedQueue (keep : MoveRequest → Bool) (mark : MoveRequest → MoveRequest)
    (queue : List MoveRequest) : List MoveRequest :=
  (queue.filter fun r => r.running || keep r).map mark

/-- A mark leaves a request as it is but for its two marks. -/
def OnlyMarks (mark : MoveRequest → MoveRequest) : Prop :=
  ∀ r, ∃ reset close, mark r = { r with resetMark := reset, closeMark := close }

theorem resetMoves_eq (i : PortId) (queue : List MoveRequest) :
    resetMoves i queue
      = prunedQueue (fun r => !decide (r.requester.port = i))
          (fun r => if r.requester.port = i then { r with resetMark := true } else r) queue := rfl

/-! ### The runs of changes -/

/-- One change of the part in an event of the Directory: of nothing that counts, of one window, or of the
requests that wait in the Move Queue. -/
inductive State.Act : State → State → Prop
  | same {s t : State} (h : SameWork s t) : Act s t
  | window {s : State} {k : Nat} {w w' : Window} {joins : Bool} (hw : s.window? k = some w)
      (h : w.Change joins w') : Act s (s.putQueued k w' joins)
  | pruned {s : State} (keep : MoveRequest → Bool) (mark : MoveRequest → MoveRequest)
      (h : OnlyMarks mark) : Act s { s with move.queue := prunedQueue keep mark s.move.queue }
  | joined {s : State} (r : MoveRequest) (h1 : r.running = false) (h2 : r.resolved = none)
      (h3 : r.progress = 0) : Act s { s with move.queue := s.move.queue ++ [r] }

/-- A run of such changes. -/
def State.Leads : State → State → Prop := Relation.ReflTransGen State.Act

theorem State.Leads.refl (s : State) : s.Leads s := Relation.ReflTransGen.refl

theorem State.Leads.trans {s t u : State} (h : s.Leads t) (g : t.Leads u) : s.Leads u :=
  Relation.ReflTransGen.trans h g

theorem SameWork.leads {s t : State} (h : SameWork s t) : s.Leads t :=
  Relation.ReflTransGen.single (.same h)

theorem State.Leads.same {s t u : State} (h : s.Leads t) (g : SameWork t u) : s.Leads u :=
  h.trans g.leads

theorem State.Leads.answer {s t : State} (h : s.Leads t) (i : PortId) (code : ResultCode)
    (detail : List Byte) : s.Leads (t.answer i code detail) := h.same (sameWork_answer ..)

theorem State.Leads.reply {s t : State} (h : s.Leads t) (i : PortId) (code : ResultCode) :
    s.Leads (t.reply i code) := h.same (sameWork_reply ..)

theorem State.Leads.postAll {s t : State} (h : s.Leads t) (ns : List Notice) :
    s.Leads (t.postAll ns) := h.same (sameWork_postAll ..)

/-- A window changed, and nothing joins the Retire Queue. -/
theorem leads_putWindow {s : State} {k : Nat} {w w' : Window} (hw : s.window? k = some w)
    (h : w.Change false w') : s.Leads (s.putWindow k w') := by
  rw [← State.putQueued_false]
  exact Relation.ReflTransGen.single (.window hw h)

/-- What holds of every run from its steps. -/
theorem State.Leads.keeps {P : State → Prop} (hP : ∀ s t : State, s.Act t → P s → P t) {s t : State}
    (h : s.Leads t) (hs : P s) : P t := by
  induction h with
  | refl => exact hs
  | tail _ hbc ih => exact hP _ _ hbc ih

/-- A fold of steps each of which is a run is a run. -/
theorem leads_foldl {α : Type} (f : State → α → State) (hf : ∀ (s : State) a, s.Leads (f s a)) (l : List α)
    (s : State) : s.Leads (l.foldl f s) := by
  induction l generalizing s with
  | nil => exact .refl s
  | cons a l ih => exact (hf s a).trans (ih _)

/-! ### The shared operations -/

theorem leads_beginRetirement (s : State) (k : Nat) (cause : RetireCause) :
    s.Leads (s.beginRetirement k cause) := by
  rcases hw : s.window? k with _ | w
  · rw [State.beginRetirement_eq, hw]
    exact .refl s
  · by_cases hl : w.isLive = true
    · rw [State.beginRetirement_live cause hw hl]
      exact Relation.ReflTransGen.single (.window hw (.retired cause hl))
    · simp only [State.beginRetirement_eq, hw, hl]
      exact .refl s

theorem leads_retireAll (s : State) (cause : RetireCause) (is : List Nat) :
    s.Leads (s.retireAll cause is) :=
  leads_foldl _ (fun t k => leads_beginRetirement t k cause) is s

/-- An exchange request, as a command or a line event makes it, on a LIVE window that has two banks or is
bound with SWAP (R68, R146). -/
theorem leads_requestExchange {s : State} {k : Nat} {w : Window} (source : SwapSource)
    (hw : s.window? k = some w) (hl : w.isLive = true)
    (hb : w.bank1.isSome = true ∨ w.binding.map Binding.action = some .swap) :
    s.Leads (s.requestExchange k w source) := by
  unfold State.requestExchange
  split
  · exact (leads_putWindow hw (.exchanged hl hb)).postAll _
  · rename_i hq
    split
    · exact .refl s
    · exact leads_putWindow hw (.pending source hl (by simpa using hq) hb)

theorem leads_lineAction (s : State) (line k : Nat) : s.Leads (s.lineAction line k) := by
  unfold State.lineAction
  split
  · exact .refl s
  · rename_i w hw
    split
    · rename_i hb
      split
      · exact leads_beginRetirement s k .line
      · rename_i ha
        exact leads_requestExchange .line hw (Bool.and_eq_true_iff.1 hb).1 (.inr ha)
      · exact .refl s
    · exact .refl s

theorem leads_tickWindow (s : State) (k : Nat) : s.Leads (s.tickWindow k) := by
  unfold State.tickWindow
  split
  · exact .refl s
  · rename_i w hw
    split
    · split
      · exact .refl s
      · rename_i n hn
        split
        · exact (leads_putWindow hw (.lifetime none (by simp))).trans (leads_beginRetirement ..)
        · exact leads_putWindow hw (.lifetime _ (by simp; omega))
    · exact .refl s

theorem leads_takeTick (s : State) : s.Leads s.takeTick :=
  (sameWork_events s _).leads.trans (leads_foldl _ leads_tickWindow _ _)

theorem leads_actReset (s : State) (i : PortId) (h : (s.port i).state = .idle) :
    s.Leads (s.actReset i) := by
  have hm : OnlyMarks fun r : MoveRequest =>
      if r.requester.port = i then { r with resetMark := true } else r := fun r => by
    by_cases hr : r.requester.port = i
    · exact ⟨true, r.closeMark, by simp [hr]⟩
    · exact ⟨r.resetMark, r.closeMark, by simp [hr]⟩
  exact (sameWork_setPort s i { s.port i with
      notices := [], lost := false, last := LastResult.initial, state := .idle } h.symm rfl
        rfl).leads.trans (Relation.ReflTransGen.single (.pruned _ _ hm))

/-! ### The close of an app slot -/

theorem leads_closeView (s : State) (h : Holder) (selector : Nat) :
    s.Leads (s.closeView h selector) := by
  unfold State.closeView
  split
  · exact .refl s
  · exact (sameWork_views s _).leads.postAll _

theorem leads_closeMoves (s : State) (h : Holder) : s.Leads (s.closeMoves h) := by
  have hm : OnlyMarks fun r : MoveRequest =>
      if r.requester = h then { r with closeMark := true } else r := fun r => by
    by_cases hr : r.requester = h
    · exact ⟨r.resetMark, true, by simp [hr]⟩
    · exact ⟨r.resetMark, r.closeMark, by simp [hr]⟩
  have hq : (fun r : MoveRequest => !(decide (r.requester = h) && !r.running))
      = fun r => r.running || !decide (r.requester = h) := by
    funext r
    cases r.running <;> simp
  unfold State.closeMoves
  simp only [hq]
  exact State.Leads.postAll (Relation.ReflTransGen.single (.pruned _ _ hm)) _

theorem leads_closeState (s : State) (slot : Nat) (h : Holder) : s.Leads (s.closeState slot h) := by
  unfold State.closeState
  split
  · exact (sameWork_setSlot ..).leads
  · exact (sameWork_completeClose ..).leads

theorem leads_teardown (s : State) (slot : Nat) : s.Leads (s.teardown slot) :=
  (((leads_foldl _ (fun t n => leads_closeView t _ n) _ s).trans (leads_retireAll _ _ _)).trans
    (leads_closeMoves _ _)).trans (leads_closeState _ _ _)

end Sys2Proof.Machine
end

section
/-! SUPPORT. What the checks of a command leave known where all of them pass, and what each command or
event can do, said once (`exec_effect`).
-/

namespace Sys2Proof.Machine

/-! ### Checks that pass -/

@[simp] theorem Checks.ok_bind {α β : Type} (a : α) (f : α → Except ResultCode β) :
    (Except.ok a >>= f) = f a := rfl

@[simp] theorem Checks.error_bind {α β : Type} (code : ResultCode) (f : α → Except ResultCode β) :
    ((Except.error code : Except ResultCode α) >>= f) = .error code := rfl

@[simp] theorem Checks.pure_eq {α : Type} (a : α) : (pure a : Except ResultCode α) = .ok a := rfl

/-- Checks one after the other pass where the first and then the rest pass. -/
theorem Checks.bind_eq_ok {α β : Type} {x : Except ResultCode α} {f : α → Except ResultCode β}
    {b : β} : (x >>= f) = .ok b ↔ ∃ a, x = .ok a ∧ f a = .ok b := by
  rcases x with e | a
  · simp only [Checks.error_bind, reduceCtorEq, false_and, exists_false]
  · simp only [Checks.ok_bind, Except.ok.injEq, exists_eq_left']

theorem liveWindow_eq_ok {s : State} {k : Nat} {w : Window} :
    s.liveWindow k = .ok w ↔ s.window? k = some w ∧ w.isLive = true := by
  simp only [State.liveWindow, Checks.bind_eq_ok, require_eq_ok, found_eq_ok, Checks.pure_eq,
    Except.ok.injEq, exists_const]
  constructor
  · rintro ⟨v, hv, hl, rfl⟩
    exact ⟨hv, hl⟩
  · rintro ⟨hw, hl⟩
    exact ⟨w, hw, hl, rfl⟩

/-- A bank named by its word: the live bank, or the other one of a two-bank window (R6, R64). -/
theorem resolve_shadow_eq_some {w : Window} {n : BankNo} :
    w.resolve .shadow = some n ↔ w.bank1.isSome = true ∧ w.live.other = n := by
  simp [Window.resolve]

theorem checkOwner_ok {i : PortId} {selector : Byte} {s : State} {x : View × Window}
    (h : checkOwner i selector s = .ok x) :
    s.window? x.1.window = some x.2 ∧ x.2.isLive = true := by
  simp only [checkOwner, Checks.bind_eq_ok, liveWindow_eq_ok, Checks.pure_eq, Except.ok.injEq] at h
  obtain ⟨v, -, -, -, w, hw, rfl⟩ := h
  exact hw

theorem checkSwapper_ok {i : PortId} {selector : Byte} {s : State} {x : Nat × Window × Bank}
    (h : checkSwapper i selector s = .ok x) :
    s.window? x.1 = some x.2.1 ∧ x.2.1.isLive = true ∧ x.2.1.bank1.isSome = true
      ∧ x.2.1.bank? x.2.1.live.other = some x.2.2 := by
  simp only [checkSwapper, Checks.bind_eq_ok, liveWindow_eq_ok, found_eq_ok,
    resolve_shadow_eq_some, Checks.pure_eq, Except.ok.injEq] at h
  obtain ⟨v, -, w, ⟨hw, hl⟩, -, -, n, ⟨h1, rfl⟩, b, hb, rfl⟩ := h
  exact ⟨hw, hl, h1, hb⟩

theorem checkStageLimit_ok {i : PortId} {selector : Byte} {limit : BitVec 24} {s : State}
    {x : Nat × Window × Bank} (h : checkStageLimit i selector limit s = .ok x) :
    checkSwapper i selector s = .ok x ∧ limit.toNat ≤ x.2.2.pageCount * 256 := by
  simp only [checkStageLimit, Checks.bind_eq_ok, require_eq_ok, Bool.and_eq_true,
    decide_eq_true_eq, Checks.pure_eq, Except.ok.injEq] at h
  obtain ⟨y, hy, -, ⟨-, hl⟩, -, -, rfl⟩ := h
  exact ⟨hy, hl⟩

/-- A lifetime given in ticks, where 0 asks for none, is never 0 (R12, R18). -/
theorem lifetimeOfTicks_ne_zero (ticks : BitVec 16) :
    (if ticks = 0#16 then none else some ticks.toNat) ≠ some 0 := by
  split
  · simp
  · rename_i h
    exact fun e => h (BitVec.eq_of_toNat_eq (Option.some.inj e))

/-- SET QUOTA leaves the phase and the reserves (R172). -/
theorem checkSetQuota_ok {i : PortId} {cls windows : Byte} {pages : BitVec 16} {s : State} {x : Policy}
    (h : checkSetQuota i cls windows pages s = .ok x) :
    x.phase = s.policy.phase ∧ x.nReserve = s.policy.nReserve ∧ x.pReserve = s.policy.pReserve := by
  simp only [checkSetQuota, Checks.bind_eq_ok, found_eq_ok] at h
  obtain ⟨-, -, -, -, hx⟩ := h
  unfold Policy.setQuota? at hx
  split_ifs at hx <;> cases hx <;> exact ⟨rfl, rfl, rfl⟩

theorem checkMove_ok {i : PortId} {a : MoveParams} {s : State} {r : MoveRequest}
    (h : checkMove i a s = .ok r) : r.running = false ∧ r.resolved = none ∧ r.progress = 0 := by
  simp only [checkMove, Checks.bind_eq_ok, Checks.pure_eq, Except.ok.injEq] at h
  obtain ⟨-, -, -, -, -, -, -, -, -, -, -, -, -, -, -, -, -, -, -, -, -, -, -, -, -, -, -, -, -, -,
    -, -, -, -, -, -, rfl⟩ := h
  exact ⟨rfl, rfl, rfl⟩

/-- What admission leaves known (R48, R49): a LIVE window without swap pending, and a range inside the
limit of the recorded bank. -/
theorem checkAdmission_ok {kind : TransferKind} {i : PortId} {a : TransferParams} {s : State}
    {x : Transfer × Window} (h : checkAdmission kind i a s = .ok x) :
    s.window? x.1.window = some x.2 ∧ x.2.isLive = true ∧ x.2.swapPending = none
      ∧ ∃ b, x.2.bank? x.1.bank = some b ∧ x.1.offset + x.1.count ≤ b.limit := by
  simp only [checkAdmission, Checks.bind_eq_ok, liveWindow_eq_ok, found_eq_ok, require_eq_ok,
    Checks.pure_eq, Except.ok.injEq, decide_eq_true_eq, Option.isNone_iff_eq_none] at h
  obtain ⟨v, -, w, ⟨hw, hl⟩, -, -, -, -, -, -, n, -, b, hb, -, -, -, -, -, hlim, -, hp, -, -, rfl⟩ := h
  exact ⟨hw, hl, hp, b, hb, hlim⟩

/-- What the start check leaves known (R121): LIVE windows without swap pending, and ranges inside the
limits of the resolved banks. -/
theorem checkStart_ok {s : State} {r : MoveRequest} {x : Resolved} (h : checkStart s r = .ok x) :
    ∃ sw dw sb db, s.window? x.srcWindow = some sw ∧ s.window? x.dstWindow = some dw
      ∧ sw.isLive = true ∧ dw.isLive = true ∧ sw.swapPending = none ∧ dw.swapPending = none
      ∧ sw.bank? x.srcBank = some sb ∧ dw.bank? x.dstBank = some db
      ∧ r.srcOffset + r.mode.sourceSpan r.count ≤ sb.limit ∧ r.dstOffset + r.count ≤ db.limit := by
  simp only [checkStart, Checks.bind_eq_ok, liveWindow_eq_ok, found_eq_ok, require_eq_ok,
    Checks.pure_eq, Except.ok.injEq, Bool.and_eq_true, decide_eq_true_eq,
    Option.isNone_iff_eq_none] at h
  obtain ⟨-, -, sv, -, sw, ⟨hsw, hsl⟩, dv, -, dw, ⟨hdw, hdl⟩, -, -, -, -, sn, -, dn, -, sb, hsb, db, hdb,
    -, ⟨hs, hd⟩, -, ⟨hps, hpd⟩, -, -, rfl⟩ := h
  exact ⟨sw, dw, sb, db, hsw, hdw, hsl, hdl, hps, hpd, hsb, hdb, hs, hd⟩

end Sys2Proof.Machine
end

section
/-! SUPPORT. The Window Table and the Retire Queue after the events that move work on: the completion of a
transfer, and the start and the end of a move.
-/

namespace Sys2Proof.Machine

/-! ### The completion of a transfer -/

/-- A window after one of its transfers has ended, before its quiet-point action (R55 steps 1 and 2). -/
def Window.lowered (w : Window) (damages : Bool) : Window :=
  { w with inFlight := w.inFlight - 1, damaged := w.damaged || damages }

/-- The completion of a FETCH that read an uncorrectable word damages its window (R55). -/
def Transfer.damages (x : Transfer) (c : Completion) : Bool :=
  decide (x.kind = .fetch ∧ c.uncorrectable ≠ 0)

theorem State.window?_lowerInFlight (s : State) (k j : Nat) :
    (s.lowerInFlight k).window? j
      = if j = k then (s.window? k).map fun w => { w with inFlight := w.inFlight - 1 }
        else s.window? j := by
  unfold State.lowerInFlight
  split
  · split <;> simp_all
  · rename_i w h
    by_cases hj : j = k
    · subst hj
      simp [h]
    · rw [State.window?_putWindow, if_neg (Ne.symm hj), if_neg hj]

/-- The Directory's part of a completion: the count lowered and the damaged flag set where the transfer
damages its window (R55 steps 1 and 2). -/
def State.lowerTransfer (s : State) (x : Transfer) (c : Completion) : State :=
  if x.kind = .fetch ∧ c.uncorrectable ≠ 0 then (s.lowerInFlight x.window).setDamaged x.window
  else s.lowerInFlight x.window

theorem State.window?_lowerTransfer (s : State) (x : Transfer) (c : Completion) (j : Nat) :
    (s.lowerTransfer x c).window? j
      = if j = x.window then (s.window? j).map fun w => w.lowered (x.damages c)
        else s.window? j := by
  unfold State.lowerTransfer
  by_cases hd : x.kind = .fetch ∧ c.uncorrectable ≠ 0
  · rw [if_pos hd, State.window?_setDamaged, State.window?_lowerInFlight,
      State.window?_lowerInFlight]
    by_cases hj : j = x.window
    · subst hj
      simp [Function.comp_def, Window.lowered, Transfer.damages, hd]
    · simp [hj]
  · rw [if_neg hd, State.window?_lowerInFlight]
    by_cases hj : j = x.window
    · subst hj
      simp [Window.lowered, Transfer.damages, hd]
    · simp [hj]

/-- What an operation on one window leaves of the part: all but the windows, the Retire Queue and the
notices. -/
structure KeepsWork (s t : State) : Prop where
  tamper : t.dir.tamper = s.dir.tamper
  alloc : t.alloc = s.alloc
  xm : t.xm = s.xm
  move : t.move = s.move
  retireState : t.retire.state = s.retire.state
  endReport : t.retire.endReport = s.retire.endReport
  policy : t.policy = s.policy
  port : ∀ i, ∃ notices lost, t.port i = { s.port i with notices := notices, lost := lost }

theorem KeepsWork.refl (s : State) : KeepsWork s s :=
  ⟨rfl, rfl, rfl, rfl, rfl, rfl, rfl, fun i => ⟨(s.port i).notices, (s.port i).lost, rfl⟩⟩

theorem KeepsWork.trans {s t u : State} (h : KeepsWork s t) (g : KeepsWork t u) : KeepsWork s u where
  tamper := g.tamper.trans h.tamper
  alloc := g.alloc.trans h.alloc
  xm := g.xm.trans h.xm
  move := g.move.trans h.move
  retireState := g.retireState.trans h.retireState
  endReport := g.endReport.trans h.endReport
  policy := g.policy.trans h.policy
  port i := by
    obtain ⟨n, l, hp⟩ := h.port i
    obtain ⟨n', l', hp'⟩ := g.port i
    exact ⟨n', l', by rw [hp', hp]⟩

theorem keepsWork_putWindow (s : State) (k : Nat) (w : Window) : KeepsWork s (s.putWindow k w) :=
  ⟨rfl, rfl, rfl, rfl, rfl, rfl, rfl, fun i => ⟨(s.port i).notices, (s.port i).lost, rfl⟩⟩

theorem keepsWork_putQueued (s : State) (k : Nat) (w : Window) (joins : Bool) :
    KeepsWork s (s.putQueued k w joins) :=
  ⟨rfl, rfl, rfl, rfl, rfl, rfl, rfl, fun i => ⟨(s.port i).notices, (s.port i).lost, rfl⟩⟩

theorem keepsWork_postAll (s : State) (ns : List Notice) : KeepsWork s (s.postAll ns) :=
  ⟨rfl, rfl, rfl, rfl, rfl, rfl, rfl, fun i => ⟨_, _, s.port_postAll ns i⟩⟩

/-- The quiet-point action is a window written with its place on the Retire Queue, and notices
(R72, R84). -/
theorem State.quietPoint_eq_putQueued {s : State} {k : Nat} {w : Window} (hw : s.window? k = some w) :
    ∃ ns, s.quietPoint k = (s.putQueued k w.settled w.joinsQueue).postAll ns ∨ s.quietPoint k = s := by
  rw [State.quietPoint_eq, hw]
  simp only
  split
  · rename_i hj
    exact ⟨[], .inl (by simp [State.putQueued, hj])⟩
  · rename_i hj
    split
    · exact ⟨[], .inr rfl⟩
    · refine ⟨settledNotices s k w, .inl ?_⟩
      rw [Bool.not_eq_true] at hj
      rw [hj, State.putQueued_false]

theorem keepsWork_quietPoint (s : State) (k : Nat) : KeepsWork s (s.quietPoint k) := by
  rcases hw : s.window? k with _ | w
  · rw [State.quietPoint_eq, hw]
    exact .refl s
  · obtain ⟨ns, h | h⟩ := State.quietPoint_eq_putQueued hw
    · rw [h]
      exact (keepsWork_putQueued ..).trans (keepsWork_postAll ..)
    · rw [h]
      exact .refl s

theorem keepsWork_setDamaged (s : State) (k : Nat) : KeepsWork s (s.setDamaged k) := by
  rw [State.setDamaged_eq]
  split
  · exact .refl s
  · split
    · exact .refl s
    · exact (keepsWork_putWindow ..).trans (keepsWork_postAll ..)

theorem keepsWork_lowerInFlight (s : State) (k : Nat) : KeepsWork s (s.lowerInFlight k) := by
  unfold State.lowerInFlight
  split
  · exact .refl s
  · exact keepsWork_putWindow ..

theorem keepsWork_lowerTransfer (s : State) (x : Transfer) (c : Completion) :
    KeepsWork s (s.lowerTransfer x c) := by
  unfold State.lowerTransfer
  split
  · exact (keepsWork_lowerInFlight ..).trans (keepsWork_setDamaged ..)
  · exact keepsWork_lowerInFlight ..

theorem keepsWork_releasePin (s : State) (k : Nat) : KeepsWork s (s.releasePin k) := by
  unfold State.releasePin
  split
  · exact .refl s
  · exact keepsWork_putWindow ..

theorem keepsWork_pin (s : State) (k : Nat) : KeepsWork s (s.pin k) := by
  unfold State.pin
  split
  · exact .refl s
  · exact keepsWork_putWindow ..

/-! ### The quiet points of several windows -/

theorem Window.settled_settled (w : Window) : w.settled.settled = w.settled := by
  rcases hq : w.quiet
  · simp [Window.settled, hq]
  · rcases hs : w.state
    · rcases hp : w.swapPending with _ | source
      · simp [Window.settled, hq, hs, hp]
      · simp [Window.settled, hq, hs, hp]
    · simp [Window.settled, hq, hs]
    · simp [Window.settled, hq, hs]
    · simp [Window.settled, hq, hs]

/-- The quiet-point actions of several windows in order. -/
def State.settleAll (s : State) (ks : List Nat) : State := ks.foldl State.quietPoint s

theorem State.window?_settleAll (ks : List Nat) (s : State) (j : Nat) :
    (s.settleAll ks).window? j
      = if j ∈ ks then (s.window? j).map Window.settled else s.window? j := by
  unfold State.settleAll
  induction ks generalizing s with
  | nil => simp
  | cons k ks ih =>
    rw [List.foldl_cons, ih, State.window?_quietPoint]
    by_cases hj : j = k
    · subst hj
      by_cases hm : j ∈ ks <;> simp [hm, Function.comp_def, Window.settled_settled]
    · simp [hj]

/-- The end of a transfer at its port, its window lowered before (R55). -/
def State.freePort (s : State) (i : PortId) (last : LastResult) : State :=
  s.setPort i { s.port i with state := .idle, transfer := none, completion := none, last := last }

theorem State.complete_eq (s : State) (i : PortId) (x : Transfer) (c : Completion) :
    s.complete i x c
      = (fun idle : State => if (s.port i).state = .resetting then idle.actReset i else idle)
          (((s.lowerTransfer x c).quietPoint x.window).freePort i (completionResult x c)) := rfl

/-- A port freed alike in two states alike leaves them alike. -/
theorem SameWork.freePort {s t : State} (h : SameWork s t) (i : PortId) (last : LastResult) :
    SameWork (s.freePort i last) (t.freePort i last) where
  window := h.window
  tamper := h.tamper
  page := h.page
  xm := h.xm
  move := h.move
  retire := h.retire
  phase := h.phase
  nReserve := h.nReserve
  pReserve := h.pReserve
  portState j := by
    simp only [State.freePort, State.port_setPort]
    split
    · rfl
    · exact h.portState j
  transfer j := by
    simp only [State.freePort, State.port_setPort]
    split
    · rfl
    · exact h.transfer j
  completion j := by
    simp only [State.freePort, State.port_setPort]
    split
    · rfl
    · exact h.completion j

/-- The quiet-point action sees nothing of a port, and so may come before or after one is freed. -/
theorem sameWork_quietPoint_freePort (s : State) (i : PortId) (k : Nat) (last : LastResult) :
    SameWork ((s.freePort i last).quietPoint k) ((s.quietPoint k).freePort i last) := by
  have hw : (s.freePort i last).window? k = s.window? k := rfl
  rw [State.quietPoint_eq, State.quietPoint_eq s k, hw]
  split
  · exact .refl _
  · rename_i w _
    split
    · exact .refl _
    · split
      · exact .refl _
      · have h := sameWork_postAll ((s.freePort i last).putWindow k w.settled) (settledNotices s k w)
        exact h.symm.trans ((sameWork_postAll (s.putWindow k w.settled) _).freePort i last)

/-! ### The end of a move -/

/-- The end of a move before the quiet points of its windows (R127): the source damaged where an
uncorrectable word was read, the pins released, and the request gone. -/
def State.releaseHead (s : State) (r : MoveRequest) (dataError : Bool) : State :=
  { (match r.resolved with
     | some x =>
       ((if dataError then s.setDamaged x.srcWindow else s).releasePin x.srcWindow).releasePin
         x.dstWindow
     | none => s) with
    move := ⟨s.move.queue.tail, .idle, 0, s.move.pattern⟩ }

theorem keepsWork_release (s : State) (x : Resolved) (dataError : Bool) :
    KeepsWork s (((if dataError then s.setDamaged x.srcWindow else s).releasePin
      x.srcWindow).releasePin x.dstWindow) := by
  refine (KeepsWork.trans ?_ (keepsWork_releasePin _ _)).trans (keepsWork_releasePin _ _)
  split
  · exact keepsWork_setDamaged s _
  · exact .refl s

/-- The windows that the end of a move releases (R127 steps 1 and 2). -/
theorem State.window?_releaseHead (s : State) (r : MoveRequest) (dataError : Bool) (j : Nat) :
    (s.releaseHead r dataError).window? j
      = if j ∈ r.releases then s.releasedAt r dataError j else s.window? j := by
  rcases hx : r.resolved with _ | x
  · simp only [State.releaseHead, MoveRequest.releases, hx, List.not_mem_nil, if_false]
    rfl
  · have hm : j ∈ r.releases ↔ j = x.srcWindow ∨ j = x.dstWindow := by
      simp only [MoveRequest.releases, hx]
      split
      · rename_i h; simp [h]
      · simp
    have hd : ∀ j, (if dataError then s.setDamaged x.srcWindow else s).window? j
        = if j = x.srcWindow then (s.window? j).map fun w => { w with damaged := w.damaged || dataError }
          else s.window? j := fun j => by
      cases dataError
      · simp
      · simp only [if_true, State.window?_setDamaged, Bool.or_true]
        split <;> simp_all
    have hw : (s.releaseHead r dataError).window? j
        = (((if dataError then s.setDamaged x.srcWindow else s).releasePin x.srcWindow).releasePin
            x.dstWindow).window? j := by
      simp only [State.releaseHead, hx]
      rfl
    have hr : ∀ k, r.readsFrom k = decide (x.srcWindow = k) := fun k => by
      simp [MoveRequest.readsFrom, hx]
    rw [hw]
    simp only [State.window?_releasePin, hd, hm, State.releasedAt, hr]
    by_cases hs : j = x.srcWindow
    · subst hs
      by_cases he : x.srcWindow = x.dstWindow
      · simp [← he, Window.released, Function.comp_def]
      · simp [he, Window.released, Function.comp_def]
    · by_cases he : j = x.dstWindow
      · subst he
        simp [hs, Ne.symm hs, Window.released]
      · simp [hs, he]

/-- The move engine is not seen by the quiet-point action. -/
theorem State.settleAll_withMove (ks : List Nat) (s : State) (m : MoveEngine) :
    ({ s with move := m } : State).settleAll ks = { s.settleAll ks with move := m } := by
  unfold State.settleAll
  induction ks generalizing s with
  | nil => rfl
  | cons k ks ih =>
    have h : ({ s with move := m } : State).quietPoint k = { s.quietPoint k with move := m } := by
      have hw : ({ s with move := m } : State).window? k = s.window? k := rfl
      rw [State.quietPoint_eq, State.quietPoint_eq s k, hw]
      split
      · rfl
      · split
        · rfl
        · split <;> rfl
    rw [List.foldl_cons, h, ih]
    rfl

theorem keepsWork_settleAll (ks : List Nat) (s : State) : KeepsWork s (s.settleAll ks) := by
  unfold State.settleAll
  induction ks generalizing s with
  | nil => exact .refl s
  | cons k ks ih => exact (keepsWork_quietPoint s k).trans (ih _)

/-- A notice posted or not, and the Move Engine written. -/
theorem sameWork_postedWithMove (s : State) (n : Notice) (posts : Bool) (queue : List MoveRequest) :
    SameWork { s with move := ⟨queue, .idle, 0, s.move.pattern⟩ }
      { (if posts then s else s.post n) with
        move.queue := queue, move.state := .idle, move.corrected := 0 } := by
  cases posts
  · exact sameWork_post { s with move := ⟨queue, .idle, 0, s.move.pattern⟩ } n
  · exact .refl _

theorem State.releaseMove_eq (s : State) (x : Resolved) :
    s.releaseMove x = ((s.releasePin x.srcWindow).releasePin x.dstWindow).settleAll
      (if x.dstWindow = x.srcWindow then [x.srcWindow] else [x.srcWindow, x.dstWindow]) := by
  unfold State.releaseMove State.settleAll
  split <;> rfl

/-- The end of a move is the release of its windows, their quiet points in order, and a notice
(R127). -/
theorem sameWork_endMove (s : State) (r : MoveRequest) (code : ResultCode) (dataError : Bool) :
    SameWork ((s.releaseHead r dataError).settleAll r.releases) (s.endMove r code dataError) := by
  rcases hx : r.resolved with _ | x
  · simp only [State.releaseHead, MoveRequest.releases, State.endMove, hx]
    exact sameWork_postedWithMove s _ _ _
  · simp only [State.releaseHead, MoveRequest.releases, State.endMove, hx, State.settleAll_withMove,
      State.releaseMove_eq]
    have hm := ((keepsWork_release s x dataError).trans (keepsWork_settleAll
      (if x.dstWindow = x.srcWindow then [x.srcWindow] else [x.srcWindow, x.dstWindow]) _)).move
    rw [← congrArg MoveEngine.pattern hm]
    exact sameWork_postedWithMove _ _ _ _

end Sys2Proof.Machine
end

section
/-! SUPPORT. What each command or event can do to the part, in one list (`Effect`, `exec_effect`): a run
of changes of the Directory, or one of the events that move work on.
-/

namespace Sys2Proof.Machine

/-- What exchange memory may hold after a grant on `count` bytes from `offset` on of a bank: nature has
turned over some stored bits, and the range has been written or not (R52, R53, R126). -/
def State.Stored (s : State) (m : Memory) (k : Nat) (n : BankNo) (offset count : Nat) : Prop :=
  ∃ flips, m = s.xm.disturb flips
    ∨ ∃ a data, data.length = count ∧ s.rangeAddress? k n offset count = some a
        ∧ m = (s.xm.disturb flips).writeRange a data

/-- The three ports IDLE (R170). -/
def Ports.allIdle (ps : Ports) : Ports :=
  { ps with p := { ps.p with state := .idle }, n := { ps.n with state := .idle }
            a := { ps.a with state := .idle } }

theorem Ports.get_allIdle (ps : Ports) (i : PortId) :
    ps.allIdle.get i = { ps.get i with state := .idle } := by
  cases i <;> rfl

/-- What a command or an event can make of the part. -/
inductive Effect (s : State) : State → Prop
  /-- Changes of the Directory and of the waiting requests alone. -/
  | leads {t : State} (h : s.Leads t) : Effect s t
  /-- The tamper latch is set, and no GUARDED window stays LIVE (R151). -/
  | latched {t : State} (h : ({ s with dir.tamper := true } : State).Leads t)
      (hg : ∀ k w, t.window? k = some w → w.isLiveGuarded = false) : Effect s t
  /-- The tamper latch is cleared (R153). -/
  | unlatched {t : State} (ht : SameWork { s with dir.tamper := false } t) : Effect s t
  /-- Both reserve sizes are set (R172). -/
  | reserved {t : State} (n p : Nat) (hn : n ∈ [0, 128, 256, 512]) (hp : p ∈ [0, 128, 256, 512, 1024])
      (ht : SameWork { s with policy.nReserve := n, policy.pReserve := p } t) : Effect s t
  /-- The policy is locked (R173). -/
  | locked {t : State} (i : PortId) (hi : (s.port i).state = .idle)
      (ht : SameWork { s with policy.phase := .running } t) : Effect s t
  /-- A window is opened (R13, R16). -/
  | opened {t : State} (i : PortId) (a : OpenParams) (x : OpenTicket)
      (hx : checkOpenWindow i a s = .ok x) (ht : SameWork (s.openWindow x) t) : Effect s t
  /-- A transfer is admitted (R49). -/
  | admitted {t : State} (i : PortId) (x : Transfer) (w : Window) (b : Bank)
      (hi : (s.port i).state = .idle) (hw : s.window? x.window = some w) (hl : w.isLive = true)
      (hp : w.swapPending = none) (hb : w.bank? x.bank = some b) (hr : x.offset + x.count ≤ b.limit)
      (ht : SameWork ((s.putWindow x.window { w with inFlight := w.inFlight + 1 }).setPort i
        { s.port i with state := .executing, transfer := some x, completion := none }) t) : Effect s t
  /-- A port reset waits for the transfer (R166). -/
  | waits {t : State} (i : PortId) (hi : (s.port i).state = .executing)
      (ht : SameWork (s.setPort i { s.port i with state := .resetting }) t) : Effect s t
  /-- A transfer is granted (R52, R53). -/
  | granted {t : State} (i : PortId) (x : Transfer) (c : Completion) (m : Memory)
      (hx : (s.port i).transfer = some x) (hm : s.Stored m x.window x.bank x.offset x.count)
      (ht : SameWork { s.setPort i { s.port i with completion := some c } with xm := m } t) :
      Effect s t
  /-- A transfer is completed (R55). -/
  | completed {t : State} (i : PortId) (x : Transfer) (c : Completion) (last : LastResult)
      (hx : (s.port i).transfer = some x)
      (ht : (((s.lowerTransfer x c).freePort i last).settleAll [x.window]).Leads t) : Effect s t
  /-- The Move Engine takes the head of its queue (R120). -/
  | moveTaken (r : MoveRequest) (hs : s.move.state = .idle) (hr : s.move.queue.head? = some r) :
      Effect s { s.setMoveHead { r with running := true } with
        move.state := .startCheck, move.corrected := 0 }
  /-- A move starts (R121). -/
  | moveStarted (r : MoveRequest) (x : Resolved) (hs : s.move.state = .startCheck)
      (hr : s.move.queue.head? = some r) (hx : checkStart s r = .ok x) : Effect s (s.startMove r x)
  /-- The running move goes on by `n` bytes of progress, written or not (R124, R125, R126). -/
  | moveAdvanced {t : State} (r : MoveRequest) (n : Nat) (x : MoveState) (c : Nat) (p : Table Byte)
      (m : Memory) (hs : s.move.state ≠ .idle) (hr : s.move.queue.head? = some r)
      (hn : n ≤ r.count - r.progress) (hx : x ≠ .idle ∧ x ≠ .startCheck)
      (hm : (∃ flips, m = s.xm.disturb flips) ∨ ∃ y, r.resolved = some y
        ∧ s.Stored m y.dstWindow y.dstBank (r.dstOffset + r.chunkStart) r.chunkLength)
      (ht : SameWork { s with
        xm := m
        move := ⟨{ r with progress := r.progress + n } :: s.move.queue.tail, x, c, p⟩ } t) :
      Effect s t
  /-- A move ends (R127). -/
  | moveEnded {t : State} (r : MoveRequest) (dataError : Bool) (hs : s.move.state ≠ .idle)
      (hr : s.move.queue.head? = some r)
      (ht : SameWork ((s.releaseHead r dataError).settleAll r.releases) t) : Effect s t
  /-- The Retire Engine takes a window (R87). -/
  | retireTaken (k : Nat) (rest : List Nat) (w : Window) (cause : RetireCause)
      (hs : s.retire.state = .idle) (hq : s.retire.queue = k :: rest) (hw : s.window? k = some w)
      (hc : w.cause = some cause) :
      Effect s { s.putWindow k { w with state := .clearing } with
        retire.queue := rest, retire.state := .sweeping (w.retireRecord k cause) }
  /-- The sweep ends in the request for the first page (R88, R89). -/
  | swept {t : State} (r : RetireRecord) (rootSelector : Nat) (damaged : Bool)
      (hs : s.retire.state = .sweeping r)
      (ht : SameWork (s.requestScrub { r with rootSelector := rootSelector, damaged := damaged }) t) :
      Effect s t
  /-- A page of the window is scrubbed (R89). -/
  | pageScrubbed {t : State} (r : RetireRecord) (hs : s.retire.state = .scrubbing r .requested)
      (ht : SameWork { s with
        xm := s.xm.scrubPage r.page, retire.state := .scrubbing r .scrubbed } t) : Effect s t
  /-- A page of the window is released, and the next is requested (R89). -/
  | pageNext {t : State} (r : RetireRecord) (n : BankNo) (p : Nat)
      (hs : s.retire.state = .scrubbing r .scrubbed)
      (hn : ((s.window? r.window).bind fun w => w.nextScrub r.bank r.page) = some (n, p))
      (ht : SameWork ((s.setPage r.page .free).requestScrub { r with bank := n, page := p }) t) :
      Effect s t
  /-- The last page of the window is released (R89, R90). -/
  | pageLast {t : State} (r : RetireRecord) (hs : s.retire.state = .scrubbing r .scrubbed)
      (hn : ((s.window? r.window).bind fun w => w.nextScrub r.bank r.page) = none)
      (ht : SameWork { s.setPage r.page .free with retire.state := .freeing r } t) : Effect s t
  /-- The window is freed (R90). -/
  | freed {t : State} (r : RetireRecord) (hs : s.retire.state = .freeing r)
      (ht : SameWork { s with
        dir.windows := Table.remove s.dir.windows r.window, retire.state := .idle } t) : Effect s t
  /-- The part is reset (R169). -/
  | deviceReset (pending : List Instr) (m : Memory) (e : EventUnit) :
      Effect s { State.reset with pending := pending, xm := m, events := e }
  /-- A page is scrubbed in START-UP (R170). -/
  | startupScrubbed {t : State} (page : Nat) (stage : ScrubStage)
      (hs : s.retire.state = .startUp page stage)
      (ht : SameWork { s with
        xm := s.xm.scrubPage page, retire.state := .startUp page .scrubbed } t) : Effect s t
  /-- A page is released in START-UP, and the next is requested (R170). -/
  | startupNext {t : State} (page : Nat) (hs : s.retire.state = .startUp page .scrubbed)
      (hp : page + 1 < Config.pageTotal)
      (ht : SameWork { s.setPage page .free with retire.state := .startUp (page + 1) .requested } t) :
      Effect s t
  /-- The last page is released in START-UP (R170). -/
  | startupLast {t : State} (page : Nat) (hs : s.retire.state = .startUp page .scrubbed)
      (ht : SameWork { s.setPage page .free with
        retire.state := .idle, retire.endReport := true } t) : Effect s t
  /-- The end of the start-up scrub is taken (R170). -/
  | scrubEnded (h : s.retire.endReport = true) :
      Effect s { s with
        policy.phase := .configuring, retire.endReport := false, ports := s.ports.allIdle }

theorem Effect.refl (s : State) : Effect s s := .leads (.refl s)

theorem SameWork.effect {s t : State} (h : SameWork s t) : Effect s t := .leads h.leads

/-! ### The frame of a command -/

theorem effect_onPort {s : State} {i : PortId} {during always : Bool} {act : State}
    (h : (s.port i).state.busyRule during always = none → Effect s act) :
    Effect s (s.onPort i during always act) := by
  rcases hb : (s.port i).state.busyRule during always with _ | code
  · rw [State.onPort_taken hb]
    exact h hb
  · rw [State.onPort_refused hb]
    exact (sameWork_reply ..).effect

theorem PortState.busyRule_idle {x : PortState} : x.busyRule false false = none ↔ x = .idle := by
  cases x <;> simp [PortState.busyRule]

theorem effect_onIdle {s : State} {i : PortId} {act : State}
    (h : (s.port i).state = .idle → Effect s act) : Effect s (s.onIdle i act) :=
  effect_onPort fun hb => h (PortState.busyRule_idle.1 hb)

theorem effect_checked {α : Type} {s : State} {i : PortId} {checks : Except ResultCode α}
    {act : α → State} (h : ∀ a, checks = .ok a → Effect s (act a)) :
    Effect s (s.checked i checks act) := by
  rcases hc : checks with code | a
  · exact (sameWork_reply ..).effect
  · exact h a hc

/-- A command that runs through the busy rule and its checks does what its act does, or nothing that
counts. -/
theorem effect_command {α : Type} {s : State} {i : PortId} {checks : Except ResultCode α}
    {act : α → State} (h : ∀ a, (s.port i).state = .idle → checks = .ok a → Effect s (act a)) :
    Effect s (s.onIdle i (s.checked i checks act)) :=
  effect_onIdle fun hi => effect_checked fun a ha => h a hi ha

theorem effect_onAPort {s : State} {i : PortId} {act : State} (h : Effect s act) :
    Effect s (s.onAPort i act) := by
  cases i
  · exact (sameWork_reply ..).effect
  · exact (sameWork_reply ..).effect
  · exact effect_onIdle fun _ => h

/-! ### Transfers -/

theorem effect_transfer {s : State} {i : PortId} {kind : TransferKind} {a : TransferParams} :
    Effect s (s.onIdle i (s.checked i (checkAdmission kind i a s) fun x =>
      s.acceptTransfer i x.1 x.2)) := by
  refine effect_command fun x hi hx => ?_
  obtain ⟨hw, hl, hp, b, hb, hr⟩ := checkAdmission_ok hx
  exact .admitted i x.1 x.2 b hi hw hl hp hb hr (sameWork_reply ..)

theorem grantedTransfer_eq_some {s : State} {i : PortId} {kind : TransferKind} {x : Transfer}
    (h : s.grantedTransfer i kind = some x) : (s.port i).transfer = some x := by
  unfold State.grantedTransfer at h
  split at h
  · exact (Option.filter_eq_some_iff.1 h).1
  · cases h

theorem effect_putGrant {s t : State} {i : PortId} {flips : List BitFlip}
    (h : execPutGrant i flips s = .next t) : Effect s t := by
  unfold execPutGrant at h
  split at h
  · cases h
    exact .refl s
  · rename_i x hx
    split at h
    · cases h
    · rename_i a ha
      cases h
      refine .granted i x _ _ (grantedTransfer_eq_some hx)
        ⟨flips, .inr ⟨a, Table.readRun 0#8 (s.port i).staging x.column x.count, ?_, ha, rfl⟩⟩
        (sameWork_lastGranted _ (.port i))
      simp [Table.readRun]

theorem effect_fetchGrant {s t : State} {i : PortId} {flips : List BitFlip}
    (h : execFetchGrant i flips s = .next t) : Effect s t := by
  unfold execFetchGrant at h
  split at h
  · cases h
    exact .refl s
  · rename_i x hx
    split at h
    · cases h
    · rename_i a ha
      cases h
      exact .granted i x
        ⟨(s.xm.disturb flips).countCorrected (touchedWords a x.count),
          (s.xm.disturb flips).countUncorrectable (touchedWords a x.count)⟩ _
        (grantedTransfer_eq_some hx) ⟨flips, .inl rfl⟩
        ⟨fun _ => rfl, rfl, fun _ => rfl, rfl, rfl, rfl, rfl, rfl, rfl,
          fun j => by cases i <;> cases j <;> rfl, fun j => by cases i <;> cases j <;> rfl,
          fun j => by cases i <;> cases j <;> rfl⟩

theorem effect_complete {s : State} {i : PortId} {x : Transfer} {c : Completion}
    (hx : (s.port i).transfer = some x) : Effect s (s.complete i x c) := by
  refine .completed i x c (completionResult x c) hx ?_
  have h := (sameWork_quietPoint_freePort (s.lowerTransfer x c) i x.window
    (completionResult x c)).leads
  rw [State.complete_eq]
  by_cases hs : (s.port i).state = .resetting
  · simp only [if_pos hs]
    exact h.trans (leads_actReset _ i (by simp [State.freePort]))
  · simp only [if_neg hs]
    exact h

theorem effect_transferCompletion {s : State} {i : PortId} {t : State}
    (h : execTransferCompletion i s = .next t) : Effect s t := by
  unfold execTransferCompletion at h
  cases h
  split
  · exact effect_complete ‹_›
  · exact .refl s
  · exact .refl s
  · exact .refl s

/-! ### The Move Engine -/

theorem moveHead_eq_some {s : State} {x : MoveState} {r : MoveRequest} :
    s.moveHead x = some r ↔ s.move.state = x ∧ s.move.queue.head? = some r := by
  unfold State.moveHead
  split <;> simp [*]

theorem effect_move {s : State} {i : PortId} {a : MoveParams} :
    Effect s (s.onIdle i (s.checked i (checkMove i a s) fun r =>
      ({ s with move.queue := s.move.queue ++ [r] } : State).reply i .ok)) := by
  refine effect_command fun r _ hr => .leads (State.Leads.reply ?_ i .ok)
  obtain ⟨h1, h2, h3⟩ := checkMove_ok hr
  exact Relation.ReflTransGen.single (.joined r h1 h2 h3)

theorem effect_moveTakeHead {s t : State} (h : execMoveTakeHead s = .next t) : Effect s t := by
  unfold execMoveTakeHead at h
  cases h
  split
  · exact .refl s
  · rename_i r hr
    obtain ⟨hs, hh⟩ := moveHead_eq_some.1 hr
    exact .moveTaken r hs hh

theorem effect_startCheck {s t : State} (h : execStartCheck s = .next t) : Effect s t := by
  unfold execStartCheck at h
  cases h
  split
  · exact .refl s
  · rename_i r hr
    obtain ⟨hs, hh⟩ := moveHead_eq_some.1 hr
    have hne : s.move.state ≠ .idle := by simp [hs]
    split
    · exact .moveEnded r false hne hh (sameWork_endMove ..)
    · rename_i x hx
      split
      · exact .moveEnded r false hne hh (sameWork_endMove ..)
      · exact .moveStarted r x hs hh hx

theorem grantedMove_eq_some {s : State} {x : MoveState} {r : MoveRequest} {y : Resolved}
    (h : s.grantedMove x = some (r, y)) :
    s.move.state = x ∧ s.move.queue.head? = some r ∧ r.resolved = some y := by
  unfold State.grantedMove at h
  split at h
  · split at h
    · cases h
    · rename_i r' hr
      obtain ⟨z, hz, he⟩ := Option.map_eq_some_iff.1 h
      cases he
      obtain ⟨hs, hh⟩ := moveHead_eq_some.1 hr
      exact ⟨hs, hh, hz⟩
  · cases h

/-- A queue whose head is `r` is `r` and the rest. -/
theorem queue_eq_of_head? {queue : List MoveRequest} {r : MoveRequest} (h : queue.head? = some r) :
    r :: queue.tail = queue := List.cons_head?_tail h

/-- The engine goes to another of its states with the queue as it is, and memory is disturbed. -/
theorem effect_moveHolds {s t : State} {r : MoveRequest} {x : MoveState} {c : Nat} {p : Table Byte}
    (flips : List BitFlip) (hs : s.move.state ≠ .idle) (hr : s.move.queue.head? = some r)
    (hx : x ≠ .idle ∧ x ≠ .startCheck)
    (ht : SameWork { s with xm := s.xm.disturb flips, move := ⟨s.move.queue, x, c, p⟩ } t) :
    Effect s t := by
  refine .moveAdvanced r 0 x c p _ hs hr (Nat.zero_le _) hx (.inl ⟨flips, rfl⟩) ?_
  simpa only [Nat.add_zero, queue_eq_of_head? hr] using ht

theorem effect_fillPatternRead {s t : State} {flips : List BitFlip}
    (h : execFillPatternRead flips s = .next t) : Effect s t := by
  unfold execFillPatternRead at h
  split at h
  · cases h
    exact .refl s
  · rename_i r x hx
    obtain ⟨hs, hr, -⟩ := grantedMove_eq_some hx
    split at h
    · cases h
    · rename_i a ha
      cases h
      simp only [State.performPattern]
      split
      · exact effect_moveHolds flips (by simp [hs]) hr (by simp) (sameWork_lastGranted _ .moveEngine)
      · exact effect_moveHolds flips (by simp [hs]) hr (by simp) (sameWork_lastGranted _ .moveEngine)

theorem effect_chunkCheck {s t : State} (h : execChunkCheck s = .next t) : Effect s t := by
  unfold execChunkCheck at h
  cases h
  split
  · exact .refl s
  · rename_i r hr
    obtain ⟨hs, hh⟩ := moveHead_eq_some.1 hr
    split
    · exact .moveEnded r false (by simp [hs]) hh (sameWork_endMove ..)
    · exact effect_moveHolds [] (by simp [hs]) hh (by simp) (SameWork.refl _)

/-- A chunk written is progress of its length (R126). -/
theorem effect_writeChunk {s : State} {flips : List BitFlip} {r : MoveRequest} {x : Resolved}
    {a : Nat} {data : List Byte} {sourceCorrected : Nat} (hs : s.move.state = .chunkGrant)
    (hr : s.move.queue.head? = some r) (hx : r.resolved = some x) (hd : data.length = r.chunkLength)
    (ha : s.rangeAddress? x.dstWindow x.dstBank (r.dstOffset + r.chunkStart) r.chunkLength = some a) :
    Effect s ((s.beginGrant .moveEngine flips).writeChunk r a data sourceCorrected) := by
  refine .moveAdvanced r data.length
    (if r.progress + data.length = r.count then .moveEnd false else .chunkCheck) _ _ _ (by simp [hs])
    hr ?_ ?_ (.inr ⟨x, hx, flips, .inr ⟨a, data, hd, ha, rfl⟩⟩) (sameWork_lastGranted _ .moveEngine)
  · rw [hd]
    exact Nat.min_le_right ..
  · split <;> simp

theorem effect_copyChunk {s : State} {flips : List BitFlip} {r : MoveRequest} {x : Resolved}
    {src dst : Nat} (hs : s.move.state = .chunkGrant) (hr : s.move.queue.head? = some r)
    (hx : r.resolved = some x)
    (ha : s.rangeAddress? x.dstWindow x.dstBank (r.dstOffset + r.chunkStart) r.chunkLength
      = some dst) :
    Effect s ((s.beginGrant .moveEngine flips).performCopyChunk r src dst) := by
  simp only [State.performCopyChunk]
  split
  · exact effect_moveHolds flips (by simp [hs]) hr (by simp) (sameWork_lastGranted _ .moveEngine)
  · exact effect_writeChunk hs hr hx (by simp [Memory.readRange]) ha

theorem effect_moveChunkGrant {s t : State} {flips : List BitFlip}
    (h : execMoveChunkGrant flips s = .next t) : Effect s t := by
  unfold execMoveChunkGrant at h
  split at h
  · cases h
    exact .refl s
  · rename_i r x hg
    obtain ⟨hs, hr, hx⟩ := grantedMove_eq_some hg
    split at h
    · cases h
    · rename_i dst hdst
      split at h
      · cases h
        exact effect_writeChunk hs hr hx (by simp [MoveEngine.patternRun]) hdst
      · split at h
        · cases h
        · cases h
          exact effect_copyChunk hs hr hx hdst
      · split at h
        · cases h
        · cases h
          exact effect_copyChunk hs hr hx hdst

theorem effect_moveEnd {s t : State} (h : execMoveEnd s = .next t) : Effect s t := by
  unfold execMoveEnd at h
  cases h
  split
  · rename_i r hr
    obtain ⟨hs, hh⟩ := moveHead_eq_some.1 hr
    exact .moveEnded r false (by simp [hs]) hh (sameWork_endMove ..)
  · rename_i r _ hr
    obtain ⟨hs, hh⟩ := moveHead_eq_some.1 hr
    exact .moveEnded r true (by simp [hs]) hh (sameWork_endMove ..)
  · exact .refl s

/-! ### The Retire Engine -/

theorem retireHead_eq_some {s : State} {k : Nat} {w : Window} {c : RetireCause} {rest : List Nat}
    (h : s.retireHead = some (k, w, c, rest)) :
    s.retire.state = .idle ∧ s.retire.queue = k :: rest ∧ s.window? k = some w
      ∧ w.cause = some c := by
  unfold State.retireHead at h
  split at h
  · rename_i i l hs hq
    split at h
    · cases h
    · rename_i v hv
      obtain ⟨c', hc, he⟩ := Option.map_eq_some_iff.1 h
      cases he
      exact ⟨hs, hq, hv, hc⟩
  · cases h

theorem effect_retireTakeHead {s t : State} (h : execRetireTakeHead s = .next t) : Effect s t := by
  unfold execRetireTakeHead at h
  cases h
  split
  · exact .refl s
  · rename_i k w c rest hh
    obtain ⟨hs, hq, hw, hc⟩ := retireHead_eq_some hh
    exact .retireTaken k rest w c hs hq hw hc

theorem effect_sweep {s t : State} (h : execSweep s = .next t) : Effect s t := by
  unfold execSweep at h
  cases h
  split
  · rename_i r hs
    refine .swept r (rootSelector s.dir.views r.window)
      (((s.window? r.window).map Window.damaged).getD false) hs ?_
    exact ⟨fun _ => rfl, rfl, fun _ => rfl, rfl, rfl, rfl, rfl, rfl, rfl,
      fun i => State.port_postAll_state { s with dir.views := _ } _ i,
      fun i => State.port_postAll_transfer { s with dir.views := _ } _ i,
      fun i => State.port_postAll_completion { s with dir.views := _ } _ i⟩
  all_goals exact .refl s

theorem effect_pageScrubGrant {s t : State} (h : execPageScrubGrant s = .next t) : Effect s t := by
  unfold execPageScrubGrant at h
  split at h
  · rename_i r hs
    split at h
    · split at h
      · cases h
        exact .pageScrubbed r hs (sameWork_lastGranted _ .retireEngine)
      · cases h
    · cases h
      exact .refl s
  all_goals
    cases h
    exact .refl s

theorem effect_pageRelease {s t : State} (h : execPageRelease s = .next t) : Effect s t := by
  unfold execPageRelease at h
  cases h
  split
  · rename_i r hs
    split
    · rename_i n p hn
      exact .pageNext r n p hs hn (.of_parts rfl rfl rfl rfl rfl rfl rfl rfl rfl rfl)
    · rename_i hn
      exact .pageLast r hs hn (.of_parts rfl rfl rfl rfl rfl rfl rfl rfl rfl rfl)
  all_goals exact .refl s

theorem sameWork_closeIfLast (s : State) (h : Holder) : SameWork s (s.closeIfLast h) := by
  unfold State.closeIfLast
  split
  · exact .refl s
  · exact .refl s
  · split
    · exact sameWork_completeClose ..
    · exact .refl s

/-- The state of the Retire Engine, written alike in two states alike, leaves them alike. -/
theorem SameWork.withRetireState {s t : State} (h : SameWork s t) (x : RetireState) :
    SameWork { s with retire.state := x } { t with retire.state := x } where
  window := h.window
  tamper := h.tamper
  page := h.page
  xm := h.xm
  move := h.move
  retire := by rw [h.retire]
  phase := h.phase
  nReserve := h.nReserve
  pReserve := h.pReserve
  portState := h.portState
  transfer := h.transfer
  completion := h.completion

theorem effect_windowFreeing {s t : State} (h : execWindowFreeing s = .next t) : Effect s t := by
  unfold execWindowFreeing at h
  cases h
  split
  · rename_i r hs
    have hf : SameWork { s with dir.windows := Table.remove s.dir.windows r.window } (s.freeEntry r) :=
      .of_parts rfl rfl rfl rfl rfl rfl rfl rfl rfl rfl
    exact .freed r hs (((hf.trans (sameWork_post _ _)).trans
      (sameWork_closeIfLast _ _)).withRetireState .idle)
  all_goals exact .refl s

/-! ### The start of the part -/

theorem startupPage_eq_some {s : State} {page : Nat} (h : s.startupPage = some page) :
    ∃ stage, s.retire.state = .startUp page stage := by
  unfold State.startupPage at h
  split at h
  · split at h
    · cases h
      exact ⟨_, ‹_›⟩
    · cases h
  · split at h
    · cases h
      exact ⟨_, ‹_›⟩
    · cases h
  all_goals cases h

theorem effect_startupScrubGrant {s t : State} (h : execStartupScrubGrant s = .next t) :
    Effect s t := by
  unfold execStartupScrubGrant at h
  split at h
  · cases h
    exact .refl s
  · rename_i page hp
    obtain ⟨stage, hs⟩ := startupPage_eq_some hp
    split at h
    · cases h
      exact .startupScrubbed page stage hs (sameWork_lastGranted _ .retireEngine)
    · cases h

theorem effect_startupPageRelease {s t : State} (h : execStartupPageRelease s = .next t) :
    Effect s t := by
  unfold execStartupPageRelease at h
  cases h
  split
  · rename_i page hs
    split
    · exact .startupNext page hs ‹_› (SameWork.refl _)
    · exact .startupLast page hs (SameWork.refl _)
  all_goals exact .refl s

theorem effect_scrubEnd {s t : State} (h : execScrubEnd s = .next t) : Effect s t := by
  unfold execScrubEnd at h
  cases h
  split
  · exact .scrubEnded ‹_›
  · exact .refl s

/-! ### The port's own commands and the policy -/

theorem effect_portReset {s t : State} {i : PortId} (h : execPortReset i s = .next t) :
    Effect s t := by
  unfold execPortReset at h
  cases h
  refine effect_onPort fun _ => ?_
  split
  · rename_i hi
    exact .leads ((leads_actReset s i hi).answer ..)
  · rename_i hi
    exact .waits i hi (sameWork_answer ..)
  · exact (sameWork_answer ..).effect
  · exact .refl s

theorem effect_setPools {s t : State} {i : PortId} {n p : BitVec 16}
    (h : execSetPools i n p s = .next t) : Effect s t := by
  unfold execSetPools at h
  cases h
  refine effect_command fun _ _ hx => ?_
  simp only [checkSetPools, Checks.bind_eq_ok, require_eq_ok, Bool.and_eq_true] at hx
  obtain ⟨-, -, hn, hp⟩ := hx
  exact .reserved n.toNat p.toNat (List.contains_iff_mem.1 hn) (List.contains_iff_mem.1 hp)
    (sameWork_reply ..)

theorem effect_lockPolicy {s t : State} {i : PortId} (h : execLockPolicy i s = .next t) :
    Effect s t := by
  unfold execLockPolicy at h
  cases h
  exact effect_command fun _ hi _ => .locked i hi (sameWork_reply ..)

/-! ### The tamper response -/

/-- After retirement has begun on a list of windows, a window that is LIVE was as it is before, and is
not in the list. -/
theorem retireAll_live {cause : RetireCause} {k : Nat} {w : Window} (hl : w.isLive = true)
    (ks : List Nat) (s : State) (h : (s.retireAll cause ks).window? k = some w) :
    s.window? k = some w ∧ k ∉ ks := by
  induction ks generalizing s with
  | nil => exact ⟨h, List.not_mem_nil⟩
  | cons j ks ih =>
    obtain ⟨hw, hk⟩ := ih (s.beginRetirement j cause) h
    rw [State.window?_beginRetirement] at hw
    by_cases hj : k = j
    · subst hj
      rw [if_pos rfl] at hw
      obtain ⟨v, hv, e⟩ := Option.map_eq_some_iff.1 hw
      by_cases hvl : v.isLive = true
      · rw [if_pos hvl] at e
        subst e
        simp only [Window.isLive, Window.retired] at hl
        split at hl <;> cases hl
      · rw [if_neg hvl] at e
        exact absurd (e ▸ hl) hvl
    · rw [if_neg hj] at hw
      exact ⟨hw, by simp [hj, hk]⟩

/-- No window that meets a condition of LIVE windows stays LIVE when all that meet it retire. -/
theorem retireAll_where {cause : RetireCause} {p : Window → Bool} {s : State} {k : Nat} {w : Window}
    (h : (s.retireAll cause (windowsWhere s.dir.windows p)).window? k = some w)
    (hl : w.isLive = true) : p w = false := by
  obtain ⟨hw, hk⟩ := retireAll_live hl _ s h
  by_contra hp
  exact hk (List.mem_map.2 ⟨(k, w), List.mem_filter.2 ⟨Table.mem_of_at? hw, by simpa using hp⟩, rfl⟩)

theorem effect_tamperLineEvent {s t : State} {line : Fin 8}
    (h : execTamperLineEvent line s = .next t) : Effect s t := by
  unfold execTamperLineEvent at h
  cases h
  split
  · refine .latched ?_ fun k w hw => ?_
    · exact ((sameWork_events _ _).leads.trans (leads_retireAll _ _ _)).postAll _
    · by_cases hl : w.isLive = true
      · exact retireAll_where (s := { s.takeLineEvent line.val with dir.tamper := true }) hw hl
      · simp [Window.isLiveGuarded, hl]
  · exact .refl s

/-! ### Every command and event -/

/-- What a command or an event makes of the part is one of the effects listed. -/
theorem exec_effect {c : Instr} {s t : State} (h : exec c s = .next t) : Effect s t := by
  cases c
  case readStatus i =>
    cases h
    exact effect_onPort fun _ =>
      .leads ((sameWork_setPort s i { s.port i with lost := false } rfl rfl rfl).leads.answer ..)
  case readNotice i =>
    cases h
    refine effect_onPort fun _ => ?_
    split
    · exact (sameWork_answer ..).effect
    · rename_i n rest _
      exact .leads ((sameWork_setPort s i { s.port i with notices := rest } rfl rfl rfl).leads.answer ..)
  case portReset => exact effect_portReset h
  case loadStaging i column count payload =>
    cases h
    split
    · exact effect_command fun _ _ _ => .leads ((sameWork_setPort s i
        { s.port i with staging := Table.writeRun 0#8 (s.port i).staging column.toNat payload }
          rfl rfl rfl).leads.reply ..)
    · exact (sameWork_reply ..).effect
  case readStaging =>
    cases h
    exact effect_command fun _ _ _ => (sameWork_answer ..).effect
  case clearStaging i =>
    cases h
    exact effect_onIdle fun _ => .leads ((sameWork_setPort s i
      { s.port i with staging := [], mark := false } rfl rfl rfl).leads.reply ..)
  case put =>
    cases h
    exact effect_transfer
  case fetch =>
    cases h
    exact effect_transfer
  case move =>
    cases h
    exact effect_move
  case openWindow i a =>
    cases h
    exact effect_command fun x _ hx => .opened i a x hx (sameWork_answer ..)
  case grantView =>
    cases h
    exact effect_command fun _ _ _ => .leads (((sameWork_views s _).trans (sameWork_post _ _)).leads.answer ..)
  case narrowView =>
    cases h
    exact effect_command fun _ _ _ => .leads (((sameWork_views s _).leads.postAll _).reply ..)
  case dropView =>
    cases h
    exact effect_command fun _ _ _ => .leads (((sameWork_views s _).leads.postAll _).reply ..)
  case describeView =>
    cases h
    exact effect_command fun _ _ _ => (sameWork_answer ..).effect
  case retireWindow =>
    cases h
    exact effect_command fun _ _ _ => .leads ((leads_beginRetirement ..).answer ..)
  case renew =>
    cases h
    refine effect_command fun x _ hx => .leads (State.Leads.reply ?_ _ _)
    exact leads_putWindow (checkOwner_ok hx).1 (.lifetime _ (lifetimeOfTicks_ne_zero _))
  case stageLimit =>
    cases h
    refine effect_command fun x _ hx => .leads (State.Leads.reply ?_ _ _)
    obtain ⟨hs, hl⟩ := checkStageLimit_ok hx
    obtain ⟨hw, -, h1, hb⟩ := checkSwapper_ok hs
    exact leads_putWindow hw (.limited x.2.2 _ h1 hb hl)
  case swapBanks =>
    cases h
    refine effect_command fun x _ hx => .leads (State.Leads.answer ?_ _ _ _)
    obtain ⟨hw, hl, h1, -⟩ := checkSwapper_ok hx
    exact leads_requestExchange .holder hw hl (.inl h1)
  case selectApp =>
    cases h
    refine effect_onAPort (effect_checked fun _ _ => .leads (State.Leads.reply ?_ _ _))
    unfold State.selectApp
    split
    · exact .refl s
    · exact SameWork.leads ⟨fun _ => rfl, rfl, fun _ => rfl, rfl, rfl, rfl, rfl, rfl, rfl,
        fun i => by cases i <;> rfl, fun i => by cases i <;> rfl, fun i => by cases i <;> rfl⟩
  case openSlot =>
    cases h
    exact effect_onAPort (effect_checked fun _ _ => .leads ((sameWork_setSlot ..).leads.reply ..))
  case closeSlot =>
    cases h
    exact effect_onAPort (effect_checked fun _ _ => .leads ((leads_teardown ..).answer ..))
  case setPools => exact effect_setPools h
  case setQuota =>
    cases h
    refine effect_command fun x _ hx => .leads (State.Leads.reply ?_ _ _)
    obtain ⟨h1, h2, h3⟩ := checkSetQuota_ok hx
    exact (sameWork_policy s x h1 h2 h3).leads
  case setLine i line role mode =>
    cases h
    refine effect_command fun c _ _ => .leads (State.Leads.reply ?_ _ _)
    exact (sameWork_policy s { s.policy with
      lines := Table.store LineConfig.initial s.policy.lines line.toNat c } rfl rfl rfl).leads
  case lockPolicy => exact effect_lockPolicy h
  case clearTamper =>
    cases h
    exact effect_command fun _ _ _ => .unlatched (sameWork_reply ..)
  case frameRejected =>
    cases h
    split
    · exact (sameWork_reply ..).effect
    · exact (sameWork_reply ..).effect
    · exact .refl s
    · exact .refl s
  case frameDiscarded i bytes =>
    cases h
    split
    · exact (sameWork_setPort s i { s.port i with response := none } rfl rfl rfl).effect
    all_goals exact .refl s
  case deviceReset =>
    cases h
    exact .deviceReset _ _ _
  case startupScrubGrant => exact effect_startupScrubGrant h
  case startupPageRelease => exact effect_startupPageRelease h
  case scrubEnd => exact effect_scrubEnd h
  case putGrant => exact effect_putGrant h
  case fetchGrant => exact effect_fetchGrant h
  case transferCompletion => exact effect_transferCompletion h
  case moveTakeHead => exact effect_moveTakeHead h
  case startCheck => exact effect_startCheck h
  case fillPatternRead => exact effect_fillPatternRead h
  case chunkCheck => exact effect_chunkCheck h
  case moveChunkGrant => exact effect_moveChunkGrant h
  case moveEnd => exact effect_moveEnd h
  case retireTakeHead => exact effect_retireTakeHead h
  case sweep => exact effect_sweep h
  case pageScrubGrant => exact effect_pageScrubGrant h
  case pageRelease => exact effect_pageRelease h
  case windowFreeing => exact effect_windowFreeing h
  case lineEdge =>
    cases h
    split
    · exact .refl s
    · exact (sameWork_events ..).effect
  case lineEvent =>
    cases h
    split
    · exact .leads ((sameWork_events s _).leads.trans
        (leads_foldl _ (fun t k => leads_lineAction t _ k) _ _))
    · exact .refl s
  case tamperLineEvent => exact effect_tamperLineEvent h
  case tickEmit =>
    cases h
    exact (sameWork_events ..).effect
  case tick =>
    cases h
    split
    · exact .refl s
    · exact .leads (leads_takeTick s)
  case lifetimeExpiry =>
    cases h
    split
    · exact .refl s
    · split
      · exact .leads (leads_takeTick s)
      · exact .refl s

end Sys2Proof.Machine
end

section
/-! SUPPORT. What every step keeps of each window on its own, and the two statements that rest on it: the
tamper latch stays shut (R14), and swap pending, binding, cause, live bank and lifetime stay in step with
the window (R6, R10, R17, R19, R67).
-/

namespace Sys2Proof.Machine

/-! ### A new window -/

/-- What OPEN WINDOW leaves known of its arguments (R12, R13 check 3). -/
theorem parseOpen_ok {p : Policy} {a : OpenParams} {r : OpenRequest} (h : parseOpen p a = .ok r) :
    lengthInRange r.length0 r.unit = true
      ∧ (∀ n, r.length1 = some n → lengthInRange n r.unit = true)
      ∧ r.lifetime ≠ some 0
      ∧ (r.binding.map Binding.action = some .swap → r.length1.isSome = true) := by
  simp only [parseOpen, Checks.bind_eq_ok, require_eq_ok, found_eq_ok, Checks.pure_eq,
    Except.ok.injEq] at h
  obtain ⟨cls, -, unit, -, -, h0, length1, h1, binding, -, -, hb, rfl⟩ := h
  refine ⟨h0, fun n hn => ?_, lifetimeOfTicks_ne_zero _, fun hs => ?_⟩
  · change length1 = some n at hn
    subst hn
    unfold parseLength1 at h1
    split at h1
    · cases h1
    · split at h1
      · simp only [Checks.bind_eq_ok, require_eq_ok, Checks.pure_eq, Except.ok.injEq,
          Option.some.injEq] at h1
        obtain ⟨-, hl, rfl⟩ := h1
        exact hl
      · cases h1
  · simp only at hs
    simpa [hs] using hb

/-- What the checks of OPEN WINDOW leave known (R13). -/
theorem checkOpenWindow_ok {i : PortId} {a : OpenParams} {s : State} {x : OpenTicket}
    (h : checkOpenWindow i a s = .ok x) :
    s.policy.phase = .running ∧ parseOpen s.policy a = .ok x.request
      ∧ (x.request.cls = .guarded → s.dir.tamper = false)
      ∧ s.freeWindow = some x.index
      ∧ s.place x.owner (pagesOf x.request.length0) (x.request.length1.map pagesOf)
          = some (x.first0, x.first1) := by
  simp only [checkOpenWindow, Checks.bind_eq_ok, require_eq_ok, found_eq_ok, Checks.pure_eq,
    Except.ok.injEq, decide_eq_true_eq] at h
  obtain ⟨-, hp, -, -, r, hr, -, -, -, ht, n, -, k, hk, -, -, -, -, place, hpl, rfl⟩ := h
  refine ⟨hp, hr, fun hc => ?_, hk, hpl⟩
  simpa [show r.cls = .guarded from hc] using ht

/-- A place has a first page for bank 1 exactly where one is asked (R108). -/
theorem place_bank1 {s : State} {h : Holder} {c0 : Nat} {c1 : Option Nat} {f0 : Nat}
    {f1 : Option Nat} (hp : s.place h c0 c1 = some (f0, f1)) : f1.isSome = c1.isSome := by
  unfold State.place at hp
  split at hp
  · cases hp
  · split at hp
    · cases hp
      rfl
    · obtain ⟨f, -, e⟩ := Option.map_eq_some_iff.1 hp
      cases e
      rfl

/-- The window of a ticket has bank 1 exactly where its length is given (R12, R16). -/
theorem OpenTicket.bank1_isSome {i : PortId} {a : OpenParams} {s : State} {x : OpenTicket}
    (h : checkOpenWindow i a s = .ok x) :
    x.window.bank1.isSome = x.request.length1.isSome := by
  obtain ⟨-, -, -, -, hp⟩ := checkOpenWindow_ok h
  have h1 := place_bank1 hp
  rcases hl : x.request.length1 with _ | n
  · simp [OpenTicket.window, hl]
  · rcases hf : x.first1 with _ | f
    · simp [hl, hf] at h1
    · simp [OpenTicket.window, hl, hf]

/-! ### The Window Table after each effect -/

theorem State.window?_openWindow (s : State) (x : OpenTicket) (j : Nat) :
    (s.openWindow x).window? j = if x.index = j then some x.window else s.window? j :=
  State.window?_putWindow ..

theorem State.window?_startMove (s : State) (r : MoveRequest) (x : Resolved) (j : Nat) :
    (s.startMove r x).window? j
      = if j = x.srcWindow ∨ j = x.dstWindow then (s.window? j).map fun w => { w with pinned := true }
        else s.window? j := by
  have h : (s.startMove r x).window? j
      = (((s.setMoveHead { r with resolved := some x }).pin x.srcWindow).pin x.dstWindow).window? j :=
    rfl
  have hm : ∀ k, (s.setMoveHead { r with resolved := some x }).window? k = s.window? k := fun _ => rfl
  simp only [h, State.window?_pin, hm]
  by_cases hs : j = x.srcWindow
  · subst hs
    by_cases hd : x.srcWindow = x.dstWindow
    · simp [← hd, Function.comp_def]
    · simp [hd]
  · by_cases hd : j = x.dstWindow
    · subst hd
      simp [hs]
    · simp [hs, hd]

/-! ### Properties of each window -/

/-- Every window that is not FREE has a property. -/
def State.EachWindow (P : Window → Prop) (s : State) : Prop := ∀ k w, s.window? k = some w → P w

/-- The property outlives everything that a step can do to a window. -/
structure Window.Lasts (P : Window → Prop) : Prop where
  change : ∀ {w w' : Window} {joins : Bool}, w.Change joins w' → P w → P w'
  admitted : ∀ {w : Window}, w.isLive = true → w.swapPending = none → P w →
    P { w with inFlight := w.inFlight + 1 }
  pinned : ∀ {w : Window}, P w → P { w with pinned := true }
  lowered : ∀ {w : Window} (damages : Bool), P w → P (w.lowered damages).settled
  released : ∀ {w : Window} (damages : Bool), P w → P (w.released damages).settled
  cleared : ∀ {w : Window} {cause : RetireCause}, w.cause = some cause → P w →
    P { w with state := .clearing }

variable {P : Window → Prop} {s t : State}

/-- Each window of the second state is one of the first, or comes from the one of its index by a function
under which the property is kept. -/
theorem State.EachWindow.of_map {c : Nat → Prop} [DecidablePred c] {f : Nat → Window → Window}
    (hs : s.EachWindow P) (hf : ∀ j w, P w → P (f j w))
    (h : ∀ j, t.window? j = if c j then (s.window? j).map (f j) else s.window? j) : t.EachWindow P := by
  intro j w hw
  rw [h j] at hw
  split at hw
  · obtain ⟨v, hv, rfl⟩ := Option.map_eq_some_iff.1 hw
    exact hf j v (hs j v hv)
  · exact hs j w hw

theorem State.EachWindow.of_same (hs : s.EachWindow P) (h : ∀ k, t.window? k = s.window? k) :
    t.EachWindow P :=
  fun k w hw => hs k w (h k ▸ hw)

theorem State.EachWindow.of_put {k : Nat} {v : Window} (hs : s.EachWindow P) (hv : P v)
    (h : ∀ j, t.window? j = if k = j then some v else s.window? j) : t.EachWindow P := by
  intro j w hw
  rw [h j] at hw
  split at hw
  · cases hw
    exact hv
  · exact hs j w hw

theorem State.EachWindow.leads (hP : Window.Lasts P) (hs : s.EachWindow P) (h : s.Leads t) :
    t.EachWindow P := by
  refine h.keeps (P := State.EachWindow P) (fun s t hact hs => ?_) hs
  cases hact with
  | same h => exact hs.of_same h.window
  | window hw hc => exact hs.of_put (hP.change hc (hs _ _ hw)) (State.window?_putQueued s _ · _ _)
  | pruned => exact hs
  | joined => exact hs

theorem State.EachWindow.settle_lowered (hP : Window.Lasts P) (hs : s.EachWindow P) (x : Transfer)
    (c : Completion) (i : PortId) (last : LastResult) :
    (((s.lowerTransfer x c).freePort i last).settleAll [x.window]).EachWindow P := by
  refine hs.of_map (c := (· = x.window)) (f := fun _ w => (w.lowered (x.damages c)).settled)
    (fun _ _ => hP.lowered _) fun j => ?_
  have h : ((s.lowerTransfer x c).freePort i last).window? j = (s.lowerTransfer x c).window? j := rfl
  rw [State.window?_settleAll, h, State.window?_lowerTransfer]
  by_cases hj : j = x.window
  · subst hj
    simp [Function.comp_def]
  · simp [hj]

theorem State.EachWindow.settle_released (hP : Window.Lasts P) (hs : s.EachWindow P) (r : MoveRequest)
    (dataError : Bool) : ((s.releaseHead r dataError).settleAll r.releases).EachWindow P := by
  refine hs.of_map (c := (· ∈ r.releases))
    (f := fun k w => (w.released (dataError && r.readsFrom k)).settled)
    (fun _ _ => hP.released _) fun j => ?_
  rw [State.window?_settleAll, State.window?_releaseHead]
  by_cases hj : j ∈ r.releases
  · simp [hj, State.releasedAt, Function.comp_def]
  · simp [hj]

/-- What a property of each window needs to outlive a step: that it outlives each change of a window, and
that every window opened has it. -/
theorem State.EachWindow.effect (hP : Window.Lasts P) (hs : s.EachWindow P)
    (ho : ∀ i a x, checkOpenWindow i a s = .ok x → P x.window) (h : Effect s t) : t.EachWindow P := by
  cases h with
  | leads h => exact hs.leads hP h
  | latched h _ => exact State.EachWindow.leads (s := { s with dir.tamper := true }) hP hs h
  | unlatched ht => exact hs.of_same ht.window
  | reserved _ _ _ _ ht => exact hs.of_same ht.window
  | locked _ _ ht => exact hs.of_same ht.window
  | opened i a x hx ht =>
    exact hs.of_put (ho i a x hx) fun j => (ht.window j).trans (s.window?_openWindow x j)
  | admitted _ x w _ _ hw hl hp _ _ ht =>
    exact hs.of_put (hP.admitted hl hp (hs _ _ hw)) fun j =>
      (ht.window j).trans (s.window?_putWindow x.window j _)
  | waits _ _ ht => exact hs.of_same ht.window
  | granted _ _ _ _ _ _ ht => exact hs.of_same ht.window
  | completed i x c last _ ht => exact (hs.settle_lowered hP x c i last).leads hP ht
  | moveTaken => exact hs
  | moveStarted r x =>
    exact hs.of_map (f := fun _ w => { w with pinned := true }) (fun _ _ => hP.pinned)
      (s.window?_startMove r x)
  | moveAdvanced _ _ _ _ _ _ _ _ _ _ _ ht => exact hs.of_same ht.window
  | moveEnded r dataError _ _ ht => exact (hs.settle_released hP r dataError).of_same ht.window
  | retireTaken k _ w cause _ _ hw hc =>
    exact hs.of_put (hP.cleared hc (hs _ _ hw)) (s.window?_putWindow k · _)
  | swept _ _ _ _ ht => exact hs.of_same ht.window
  | pageScrubbed _ _ ht => exact hs.of_same ht.window
  | pageNext _ _ _ _ _ ht => exact hs.of_same ht.window
  | pageLast _ _ _ ht => exact hs.of_same ht.window
  | freed r _ ht =>
    intro k w hw
    rw [ht.window k] at hw
    have h := (Table.at?_remove s.dir.windows r.window k).symm.trans hw
    split at h
    · cases h
    · exact hs k w h
  | deviceReset => exact fun k w hw => nomatch hw
  | startupScrubbed _ _ _ ht => exact hs.of_same ht.window
  | startupNext _ _ _ ht => exact hs.of_same ht.window
  | startupLast _ _ ht => exact hs.of_same ht.window
  | scrubEnded => exact hs

/-- A step is what its command or event does, with the rest of the queue waiting. -/
theorem step_effect (h : step s = .next t) :
    ∃ rest, Effect { s with pending := rest } t := by
  unfold step at h
  split at h
  · cases h
    exact ⟨s.pending, .refl s⟩
  · exact ⟨_, exec_effect h⟩

/-! ### The quiet-point action of one window -/

/-- The quiet-point action exchanges the banks of the window. -/
def Window.exchanges (w : Window) : Bool := w.quiet && w.isLive && w.swapPending.isSome

/-- The quiet-point action writes the state, the live bank and swap pending alone (R72, R84). -/
theorem Window.settled_eq (w : Window) :
    w.settled = { w with
      state := if w.joinsQueue then .queued else w.state
      live := if w.exchanges then w.live.other else w.live
      swapPending := if w.exchanges then none else w.swapPending } := by
  rcases hq : w.quiet
  · simp [Window.settled, Window.joinsQueue, Window.exchanges, hq]
  · rcases hs : w.state
    · rcases hp : w.swapPending with _ | source
      · simp [Window.settled, Window.joinsQueue, Window.exchanges, Window.isLive, hq, hs, hp]
        rw [← hs, ← hp]
      · simp [Window.settled, Window.joinsQueue, Window.exchanges, Window.isLive, hq, hs, hp]
    · simp [Window.settled, Window.joinsQueue, Window.exchanges, Window.isLive, hq, hs]
    · simp [Window.settled, Window.joinsQueue, Window.exchanges, Window.isLive, hq, hs]
      rw [← hs]
    · simp [Window.settled, Window.joinsQueue, Window.exchanges, Window.isLive, hq, hs]
      rw [← hs]

/-- A window is LIVE after its quiet point exactly where it was before. -/
theorem Window.settled_isLive (w : Window) : w.settled.isLive = w.isLive := by
  rw [Window.settled_eq]
  by_cases hj : w.joinsQueue = true
  · have : w.state = .draining := by simpa [Window.joinsQueue] using (Bool.and_eq_true_iff.1 hj).2
    simp [Window.isLive, hj, this]
  · simp [Window.isLive, hj]

theorem Window.setBank_eq (w : Window) (n : BankNo) (b : Bank) :
    w.setBank n b = { w with
      bank0 := if n = .zero then b else w.bank0
      bank1 := if n = .one then some b else w.bank1 } := by
  cases n <;> simp [Window.setBank]

/-! ### The tamper latch -/

/-- A window that is not LIVE and GUARDED becomes so by no change (R8, R14). -/
theorem lasts_notLiveGuarded : Window.Lasts fun w => w.isLiveGuarded = false where
  change h hw := by
    cases h with
    | limited => rw [Window.setBank_eq]; exact hw
    | retired _ hl =>
      unfold Window.isLiveGuarded Window.isLive Window.retired
      split <;> simp
    | _ => exact hw
  admitted _ _ h := h
  pinned h := h
  lowered _ h := by
    rw [Window.isLiveGuarded, Window.settled_isLive, Window.settled_eq]
    exact h
  released _ h := by
    rw [Window.isLiveGuarded, Window.settled_isLive, Window.settled_eq]
    exact h
  cleared _ _ := by simp [Window.isLiveGuarded, Window.isLive]

theorem leads_tamper (h : s.Leads t) : t.dir.tamper = s.dir.tamper := by
  refine h.keeps (P := fun u => u.dir.tamper = s.dir.tamper) (fun u v hact hu => ?_) rfl
  cases hact with
  | same h => exact h.tamper.trans hu
  | _ => exact hu

/-- The latch becomes set by a tamper line event alone, which leaves no GUARDED window LIVE
(R151, R152). -/
theorem effect_tamper (h : Effect s t) (ht : t.dir.tamper = true) :
    s.dir.tamper = true ∨ t.EachWindow fun w => w.isLiveGuarded = false := by
  cases h with
  | leads h => exact .inl ((leads_tamper h).symm.trans ht)
  | latched _ hg => exact .inr hg
  | unlatched h => exact absurd (h.tamper.symm.trans ht) Bool.false_ne_true
  | reserved _ _ _ _ h => exact .inl (h.tamper.symm.trans ht)
  | locked _ _ h => exact .inl (h.tamper.symm.trans ht)
  | opened _ _ _ _ h => exact .inl (h.tamper.symm.trans ht)
  | admitted _ _ _ _ _ _ _ _ _ _ h => exact .inl (h.tamper.symm.trans ht)
  | waits _ _ h => exact .inl (h.tamper.symm.trans ht)
  | granted _ _ _ _ _ _ h => exact .inl (h.tamper.symm.trans ht)
  | completed i x c last _ h =>
    have h1 := keepsWork_lowerTransfer s x c
    have h2 := keepsWork_settleAll [x.window] ((s.lowerTransfer x c).freePort i last)
    exact .inl (h1.tamper.symm.trans (h2.tamper.symm.trans ((leads_tamper h).symm.trans ht)))
  | moveTaken => exact .inl ht
  | moveStarted r x =>
    have h1 := keepsWork_pin (s.setMoveHead { r with resolved := some x }) x.srcWindow
    exact .inl (h1.tamper.symm.trans ((keepsWork_pin _ x.dstWindow).tamper.symm.trans ht))
  | moveAdvanced _ _ _ _ _ _ _ _ _ _ _ h => exact .inl (h.tamper.symm.trans ht)
  | moveEnded r dataError _ _ h =>
    have h1 := keepsWork_settleAll r.releases (s.releaseHead r dataError)
    have h2 : (s.releaseHead r dataError).dir.tamper = s.dir.tamper := by
      unfold State.releaseHead
      split
      · exact (keepsWork_release s _ dataError).tamper
      · rfl
    exact .inl (h2.symm.trans (h1.tamper.symm.trans (h.tamper.symm.trans ht)))
  | retireTaken => exact .inl ht
  | swept _ _ _ _ h => exact .inl (h.tamper.symm.trans ht)
  | pageScrubbed _ _ h => exact .inl (h.tamper.symm.trans ht)
  | pageNext _ _ _ _ _ h => exact .inl (h.tamper.symm.trans ht)
  | pageLast _ _ _ h => exact .inl (h.tamper.symm.trans ht)
  | freed _ _ h => exact .inl (h.tamper.symm.trans ht)
  | deviceReset => exact .inr fun k w hw => nomatch hw
  | startupScrubbed _ _ _ h => exact .inl (h.tamper.symm.trans ht)
  | startupNext _ _ _ h => exact .inl (h.tamper.symm.trans ht)
  | startupLast _ _ h => exact .inl (h.tamper.symm.trans ht)
  | scrubEnded => exact .inl ht

/-- The window that OPEN WINDOW makes is not GUARDED while the latch is set (R13 check 5, R14). -/
theorem opened_notGuarded {i : PortId} {a : OpenParams} {x : OpenTicket}
    (h : checkOpenWindow i a s = .ok x) (ht : s.dir.tamper = true) :
    x.window.isLiveGuarded = false := by
  obtain ⟨-, -, hc, -⟩ := checkOpenWindow_ok h
  by_contra hg
  simp only [Window.isLiveGuarded, Bool.not_eq_false, Bool.and_eq_true, decide_eq_true_eq] at hg
  exact absurd ((hc hg.2).symm.trans ht) Bool.false_ne_true

/-! ### Swap pending, binding, cause, live bank and lifetime -/

/-- The fields of a window are in step with its state and its banks, as `WindowsCoherent` has it of every
window. -/
def Window.Coherent (w : Window) : Prop :=
  (w.swapPending.isSome = true → w.state = .live ∧ w.bank1.isSome = true ∧ w.quiet = false)
    ∧ (w.binding.map Binding.action = some .swap → w.bank1.isSome = true)
    ∧ (w.cause = none ↔ w.state = .live)
    ∧ (w.bank1 = none → w.live = .zero)
    ∧ w.lifetime ≠ some 0

theorem windowsCoherent_iff : WindowsCoherent s ↔ s.EachWindow Window.Coherent := Iff.rfl

theorem Window.Coherent.change {w w' : Window} {joins : Bool} (h : w.Change joins w')
    (hw : w.Coherent) : w'.Coherent := by
  obtain ⟨hp, hb, hc, hl, ht⟩ := hw
  cases h with
  | lifetime l h => exact ⟨hp, hb, hc, hl, h⟩
  | exchanged hlive h2 =>
    have h1 : w.bank1.isSome = true := h2.elim id hb
    exact ⟨by simp, hb, hc, fun h0 => absurd h1 (by simp [show w.bank1 = none from h0]), ht⟩
  | pending source hlive hq h2 => 
    have h1 : w.bank1.isSome = true := h2.elim id hb
    exact ⟨fun _ => ⟨by simpa [Window.isLive] using hlive, h1, hq⟩, hb, hc, hl, ht⟩
  | limited b limit h1 hb' hle =>
    have h1' : (if w.live.other = .one then some { b with limit := limit } else w.bank1).isSome = true := by
      split
      · rfl
      · exact h1
    rw [Window.setBank_eq]
    exact ⟨fun h => ⟨(hp h).1, h1', (hp h).2.2⟩, fun _ => h1', hc,
      fun h0 => absurd h1' (by simp only at h0; simp [h0]), ht⟩
  | damaged => exact ⟨hp, hb, hc, hl, ht⟩
  | retired cause hlive => 
    refine ⟨by simp [Window.retired], hb, ?_, hl, ht⟩
    unfold Window.retired
    split <;> simp

/-- A window that is coherent but for a swap pending while it is quiet is coherent after its quiet point
(R72). -/
theorem Window.Coherent.settled {w : Window}
    (hp : w.swapPending.isSome = true → w.state = .live ∧ w.bank1.isSome = true)
    (hb : w.binding.map Binding.action = some .swap → w.bank1.isSome = true)
    (hc : w.cause = none ↔ w.state = .live) (hl : w.bank1 = none → w.live = .zero)
    (ht : w.lifetime ≠ some 0) : w.settled.Coherent := by
  have hj : w.joinsQueue = true → w.state = .draining := fun h => by
    simpa [Window.joinsQueue] using (Bool.and_eq_true_iff.1 h).2
  have hx : w.exchanges = true → w.state = .live ∧ w.bank1.isSome = true := fun h =>
    hp (Bool.and_eq_true_iff.1 h).2
  rw [Window.settled_eq]
  refine ⟨fun h => ?_, hb, ?_, fun h0 => ?_, ht⟩
  · by_cases he : w.exchanges = true
    · simp [he] at h
    · have hs : w.swapPending.isSome = true := by simpa [he] using h
      obtain ⟨hl', h1⟩ := hp hs
      have hq : w.quiet = false := by
        by_contra hq
        exact he (by simp [Window.exchanges, Window.isLive, hs, hl', hq])
      exact ⟨by simp [Window.joinsQueue, hq, hl'], h1, hq⟩
  · by_cases hq : w.joinsQueue = true
    · simp [hq, hc, hj hq]
    · simpa [hq] using hc
  · by_cases he : w.exchanges = true
    · exact absurd (hx he).2 (by simp only at h0; simp [h0])
    · simpa [he] using hl h0

theorem lasts_coherent : Window.Lasts Window.Coherent where
  change := Window.Coherent.change
  admitted hlive hn hw := by
    obtain ⟨hp, hb, hc, hl, ht⟩ := hw
    exact ⟨fun h => by simp [hn] at h, hb, hc, hl, ht⟩
  pinned hw := by
    obtain ⟨hp, hb, hc, hl, ht⟩ := hw
    exact ⟨fun h => ⟨(hp h).1, (hp h).2.1, by simp [Window.quiet]⟩, hb, hc, hl, ht⟩
  lowered d hw := by
    obtain ⟨hp, hb, hc, hl, ht⟩ := hw
    exact Window.Coherent.settled (fun h => ⟨(hp h).1, (hp h).2.1⟩) hb hc hl ht
  released d hw := by
    obtain ⟨hp, hb, hc, hl, ht⟩ := hw
    exact Window.Coherent.settled (fun h => ⟨(hp h).1, (hp h).2.1⟩) hb hc hl ht
  cleared {w _} hcause hw := by
    obtain ⟨hp, hb, hc, hl, ht⟩ := hw
    have hnl : w.state ≠ .live := fun e => by simp [hc.2 e] at hcause
    exact ⟨fun h => absurd (hp h).1 hnl, hb, by simp [hcause], hl, ht⟩

/-- The window that OPEN WINDOW makes is coherent (R6, R10, R16, R17, R19). -/
theorem opened_coherent {i : PortId} {a : OpenParams} {x : OpenTicket}
    (h : checkOpenWindow i a s = .ok x) : x.window.Coherent := by
  obtain ⟨-, hr, -⟩ := checkOpenWindow_ok h
  obtain ⟨-, -, hl, hb⟩ := parseOpen_ok hr
  refine ⟨by simp [OpenTicket.window], fun hs => ?_, by simp [OpenTicket.window], fun _ => rfl, hl⟩
  rw [OpenTicket.bank1_isSome h]
  exact hb hs

end Sys2Proof.Machine

namespace Sys2Proof.Machine

/-- Settles O53: no change of a window makes it LIVE and GUARDED, a tamper line event leaves none, and OPEN
WINDOW refuses one while the latch is set. -/
theorem latchStaysShut : Obligations.LatchStaysShut := by
  intro s t hs h ht
  obtain ⟨rest, he⟩ := step_effect h
  rcases effect_tamper he ht with htam | hg
  · exact State.EachWindow.effect (s := { s with pending := rest }) lasts_notLiveGuarded
      (hs htam) (fun _ _ _ hx => opened_notGuarded hx htam) he
  · exact hg

/-- Settles O57: the fields of a window are in step after each change of a window, and in a new one. -/
theorem windowsStayCoherent : Obligations.WindowsStayCoherent := by
  intro s t hs h
  obtain ⟨rest, he⟩ := step_effect h
  exact State.EachWindow.effect (s := { s with pending := rest }) lasts_coherent hs
    (fun _ _ _ hx => opened_coherent hx) he

end Sys2Proof.Machine
end

section
/-! SUPPORT. The work in flight in terms of what it rests on: the runs of pages of the banks, the transfers
that count on a window, and the head of the Move Queue. Each part of `WorkAccounted` is carried from one
state to another that agrees with it on what that part reads.
-/

namespace Sys2Proof.Machine

variable {s t : State}

/-! ### The runs of pages -/

/-- The run of pages of a bank: its first page and its page count (R5, R103). -/
def State.bankRun (s : State) (k : Nat) (n : BankNo) : Option (Nat × Nat) :=
  ((s.window? k).bind fun w => w.bank? n).map fun b => (b.firstPage, b.pageCount)

/-- A range of offsets lies in a run of pages. -/
def RunHolds (run : Option (Nat × Nat)) (offset count : Nat) : Prop :=
  ∃ f c, run = some (f, c) ∧ offset + count ≤ c * 256

theorem bankRun_eq_some {k : Nat} {n : BankNo} {f c : Nat} :
    s.bankRun k n = some (f, c)
      ↔ ∃ w b, s.window? k = some w ∧ w.bank? n = some b ∧ b.firstPage = f ∧ b.pageCount = c := by
  simp [State.bankRun, Option.bind_eq_some_iff]

theorem bankRun_of_window {k : Nat} {w : Window} {n : BankNo} {b : Bank} (hw : s.window? k = some w)
    (hb : w.bank? n = some b) : s.bankRun k n = some (b.firstPage, b.pageCount) :=
  bankRun_eq_some.2 ⟨w, b, hw, hb, rfl, rfl⟩

/-- A bank stands only where its window is not FREE. -/
theorem window?_of_bankRun {k : Nat} {n : BankNo} {x : Nat × Nat} (h : s.bankRun k n = some x) :
    ∃ w, s.window? k = some w := by
  obtain ⟨w, b, hw, -⟩ := bankRun_eq_some.1 (show s.bankRun k n = some (x.1, x.2) from h)
  exact ⟨w, hw⟩

theorem bankHolds_iff {k : Nat} {n : BankNo} {offset count : Nat} :
    s.bankHolds k n offset count ↔ RunHolds (s.bankRun k n) offset count := by
  constructor
  · rintro ⟨w, b, hw, hb, h⟩
    exact ⟨_, _, bankRun_of_window hw hb, h⟩
  · rintro ⟨f, c, hr, h⟩
    obtain ⟨w, b, hw, hb, rfl, rfl⟩ := bankRun_eq_some.1 hr
    exact ⟨w, b, hw, hb, h⟩

/-- The runs of a window's banks. -/
def Window.run (w : Window) (n : BankNo) : Option (Nat × Nat) :=
  (w.bank? n).map fun b => (b.firstPage, b.pageCount)

theorem bankRun_eq (s : State) (k : Nat) (n : BankNo) :
    s.bankRun k n = (s.window? k).bind fun w => w.run n := by
  rcases h : s.window? k <;> simp [State.bankRun, Window.run, h]

/-- The runs are those of the windows, so that windows with their runs kept leave them. -/
theorem bankRun_of_map {c : Nat → Prop} [DecidablePred c] {f : Nat → Window → Window}
    (h : ∀ j, t.window? j = if c j then (s.window? j).map (f j) else s.window? j)
    (hf : ∀ j w n, s.window? j = some w → (f j w).run n = w.run n) (k : Nat) (n : BankNo) :
    t.bankRun k n = s.bankRun k n := by
  rw [bankRun_eq, bankRun_eq, h k]
  split
  · rcases hw : s.window? k with _ | w
    · rfl
    · exact hf k w n hw
  · rfl

theorem bankRun_of_put {k : Nat} {w v : Window} (hw : s.window? k = some w)
    (h : ∀ j, t.window? j = if k = j then some v else s.window? j) (hv : ∀ n, v.run n = w.run n)
    (j : Nat) (n : BankNo) : t.bankRun j n = s.bankRun j n := by
  rw [bankRun_eq, bankRun_eq, h j]
  split
  · rename_i e
    subst e
    rw [hw]
    exact hv n
  · rfl

theorem Window.bank?_setBank (w : Window) (n m : BankNo) (b : Bank) :
    (w.setBank n b).bank? m = if m = n then some b else w.bank? m := by
  cases n <;> cases m <;> rfl

/-- No change of a window moves its pages (R103). -/
theorem Window.Change.run {w w' : Window} {joins : Bool} (h : w.Change joins w') (n : BankNo) :
    w'.run n = w.run n := by
  cases h with
  | limited b limit h1 hb hl =>
    rw [Window.run, Window.run, Window.bank?_setBank]
    split
    · rename_i e
      rw [e, hb]
      rfl
    · rfl
  | _ => cases n <;> rfl

theorem Window.settled_run (w : Window) (n : BankNo) : w.settled.run n = w.run n := by
  rw [Window.settled_eq]
  cases n <;> rfl

/-! ### Banks inside exchange memory -/

/-- Every bank of the window lies in exchange memory, with its limit inside it (R103). -/
def Window.BanksFit (w : Window) : Prop :=
  ∀ n b, w.bank? n = some b →
    b.firstPage + b.pageCount ≤ Config.pageTotal ∧ b.limit ≤ b.pageCount * 256 ∧ 1 ≤ b.pageCount

theorem Window.BanksFit.of_banks {w w' : Window} (hw : w.BanksFit) (h : ∀ n, w'.bank? n = w.bank? n) :
    w'.BanksFit := fun n b hb => hw n b (h n ▸ hb)

theorem lasts_banksFit : Window.Lasts Window.BanksFit where
  change h hw := by
    cases h with
    | limited b limit h1 hb hl =>
      intro n b' h'
      rw [Window.bank?_setBank] at h'
      split at h'
      · cases h'
        obtain ⟨h2, -, h3⟩ := hw _ b hb
        exact ⟨h2, hl, h3⟩
      · exact hw n b' h'
    | _ => exact hw.of_banks fun n => by cases n <;> rfl
  admitted _ _ hw := hw.of_banks fun n => by cases n <;> rfl
  pinned hw := hw.of_banks fun n => by cases n <;> rfl
  lowered _ hw := by
    rw [Window.settled_eq]
    exact hw.of_banks fun n => by cases n <;> rfl
  released _ hw := by
    rw [Window.settled_eq]
    exact hw.of_banks fun n => by cases n <;> rfl
  cleared _ hw := hw.of_banks fun n => by cases n <;> rfl

/-! ### What the running move and the Retire Engine hold of the banks -/

/-- What a resolved request addresses: its record, and the two ranges with their counts (R122). -/
structure MoveRanges where
  record : Resolved
  srcOffset : Nat
  srcCount : Nat
  dstOffset : Nat
  dstCount : Nat

/-- The ranges of a request, once it is resolved. -/
def MoveRequest.ranges (r : MoveRequest) : Option MoveRanges :=
  r.resolved.map fun x => ⟨x, r.srcOffset, r.mode.sourceSpan r.count, r.dstOffset, r.count⟩

/-- The ranges of the head of the Move Queue. -/
def headRanges (queue : List MoveRequest) : Option MoveRanges := queue.head?.bind MoveRequest.ranges

/-- Both ranges of a resolved head lie in the banks it was resolved to (R122). -/
def MoveHeld (run : Nat → BankNo → Option (Nat × Nat)) (head : Option MoveRanges) : Prop :=
  ∀ y, head = some y →
    RunHolds (run y.record.srcWindow y.record.srcBank) y.srcOffset y.srcCount
      ∧ RunHolds (run y.record.dstWindow y.record.dstBank) y.dstOffset y.dstCount

theorem headRanges_eq_some {queue : List MoveRequest} {y : MoveRanges} :
    headRanges queue = some y ↔ ∃ r x, queue.head? = some r ∧ r.resolved = some x
      ∧ (⟨x, r.srcOffset, r.mode.sourceSpan r.count, r.dstOffset, r.count⟩ : MoveRanges) = y := by
  simp [headRanges, MoveRequest.ranges, Option.bind_eq_some_iff]

theorem moveNames_eq (s : State) (k : Nat) :
    s.moveNames k = (headRanges s.move.queue).any fun y =>
      decide (y.record.srcWindow = k) || decide (y.record.dstWindow = k) := by
  unfold State.moveNames headRanges
  rcases s.move.queue.head? with _ | r
  · rfl
  · rcases hx : r.resolved with _ | x <;> simp [MoveRequest.ranges, hx]

/-- The page that the Retire Engine scrubs is a page of its window or of exchange memory (R89, R170). -/
def RetireHeld (run : Nat → BankNo → Option (Nat × Nat)) : RetireState → Prop
  | .scrubbing r _ => ∃ f c, run r.window r.bank = some (f, c) ∧ f ≤ r.page ∧ r.page < f + c
  | .sweeping r => r.bank = .zero ∧ ∃ c, run r.window .zero = some (r.page, c)
  | .startUp page _ => page < Config.pageTotal
  | .idle => True
  | .freeing _ => True

/-- Runs that stand in both keep what is held of them. -/
theorem RunHolds.mono {run run' : Option (Nat × Nat)} {offset count : Nat}
    (h : RunHolds run offset count) (hr : ∀ v, run = some v → run' = some v) :
    RunHolds run' offset count := by
  obtain ⟨f, c, e, hle⟩ := h
  exact ⟨f, c, hr _ e, hle⟩

theorem RetireHeld.mono {run run' : Nat → BankNo → Option (Nat × Nat)} {x : RetireState}
    (h : RetireHeld run x) (hr : ∀ k n v, run k n = some v → run' k n = some v) : RetireHeld run' x := by
  cases x with
  | startUp => exact h
  | idle => trivial
  | sweeping r =>
    obtain ⟨hb, c, e⟩ := h
    exact ⟨hb, c, hr _ _ _ e⟩
  | scrubbing r stage =>
    obtain ⟨f, c, e, hp⟩ := h
    exact ⟨f, c, hr _ _ _ e, hp⟩
  | freeing => trivial

/-- The reserves are of the sizes that the manual allows (R105). -/
def ReservesAllowed (x : Policy) : Prop :=
  x.nReserve ∈ [0, 128, 256, 512] ∧ x.pReserve ∈ [0, 128, 256, 512, 1024]

/-- What `RangesHeld` says of the Retire Engine. -/
theorem retireHeld_iff : RetireHeld s.bankRun s.retire.state
    ↔ (∀ r stage, s.retire.state = .scrubbing r stage →
        ∃ w b, s.window? r.window = some w ∧ w.bank? r.bank = some b
          ∧ b.firstPage ≤ r.page ∧ r.page < b.firstPage + b.pageCount)
      ∧ (∀ r, s.retire.state = .sweeping r →
        ∃ w, s.window? r.window = some w ∧ r.bank = .zero ∧ r.page = w.bank0.firstPage)
      ∧ ∀ page stage, s.retire.state = .startUp page stage → page < Config.pageTotal := by
  rcases s.retire.state with ⟨page, stage⟩ | _ | r | ⟨r, stage⟩ | r
  · simp [RetireHeld]
  · simp [RetireHeld]
  · simp only [RetireHeld, bankRun_eq_some, Window.bank?, reduceCtorEq, false_implies, implies_true,
      RetireState.sweeping.injEq, forall_eq', true_and, and_true]
    constructor
    · rintro ⟨hb, c, w, b, hw, e, hf, -⟩
      cases e
      exact ⟨w, hw, hb, hf.symm⟩
    · rintro ⟨w, hw, hb, hp⟩
      exact ⟨hb, _, w, _, hw, rfl, hp.symm, rfl⟩
  · simp only [RetireHeld, bankRun_eq_some, reduceCtorEq, false_implies, implies_true, and_true,
      RetireState.scrubbing.injEq, and_imp, forall_eq', forall_apply_eq_imp_iff]
    constructor
    · rintro ⟨f, c, ⟨w, b, hw, hb, rfl, rfl⟩, h⟩
      exact ⟨w, b, hw, hb, h⟩
    · rintro ⟨w, b, hw, hb, h⟩
      exact ⟨_, _, ⟨w, b, hw, hb, rfl, rfl⟩, h⟩
  · simp [RetireHeld]

theorem rangesHeld_iff : RangesHeld s ↔ ReservesAllowed s.policy ∧ s.EachWindow Window.BanksFit
      ∧ (∀ i x, (s.port i).transfer = some x → RunHolds (s.bankRun x.window x.bank) x.offset x.count)
      ∧ MoveHeld s.bankRun (headRanges s.move.queue) ∧ RetireHeld s.bankRun s.retire.state := by
  have hm : MoveHeld s.bankRun (headRanges s.move.queue)
      ↔ ∀ r x, s.move.queue.head? = some r → r.resolved = some x →
        RunHolds (s.bankRun x.srcWindow x.srcBank) r.srcOffset (r.mode.sourceSpan r.count)
          ∧ RunHolds (s.bankRun x.dstWindow x.dstBank) r.dstOffset r.count := by
    constructor
    · exact fun h r x hr hx => h _ (headRanges_eq_some.2 ⟨r, x, hr, hx, rfl⟩)
    · intro h y hy
      obtain ⟨r, x, hr, hx, rfl⟩ := headRanges_eq_some.1 hy
      exact h r x hr hx
  simp only [RangesHeld, bankHolds_iff, retireHeld_iff, hm]
  constructor
  · rintro ⟨h1, h2, h3, h4, h5⟩
    exact ⟨h1, fun k w hw n b => h2 k w n b hw, h3, h4, h5⟩
  · rintro ⟨h1, h2, h3, h4, h5⟩
    exact ⟨h1, fun k w n b hw => h2 k w hw n b, h3, h4, h5⟩

/-! ### The transfers that count on a window -/

/-- A port counts 1 on a window that its transfer names. -/
def State.portOn (s : State) (k : Nat) (i : PortId) : Nat :=
  if (s.port i).transfer.map Transfer.window = some k then 1 else 0

theorem transfersOn_eq (s : State) (k : Nat) :
    s.transfersOn k = s.portOn k .pPort + s.portOn k .nPort + s.portOn k .aPort := by
  have h : ∀ l : List PortId,
      ((l.filterMap fun i => (s.port i).transfer).filter fun x => decide (x.window = k)).length
        = (l.map (s.portOn k)).sum := by
    intro l
    induction l with
    | nil => rfl
    | cons i l ih =>
      rw [List.map_cons, List.sum_cons, ← ih]
      rcases hx : (s.port i).transfer with _ | x
      · simp [State.portOn, hx]
      · by_cases hk : x.window = k
        · simp [State.portOn, hx, hk, Nat.add_comm]
        · simp [State.portOn, hx, hk]
  rw [State.transfersOn, h]
  simp [Nat.add_assoc]

theorem portOn_le_transfersOn (s : State) (k : Nat) (i : PortId) : s.portOn k i ≤ s.transfersOn k := by
  rw [transfersOn_eq]
  cases i <;> omega

theorem portOn_same {i : PortId} {x : Transfer} (h : (s.port i).transfer = some x) :
    s.portOn x.window i = 1 := by
  simp [State.portOn, h]

/-- A window on which no transfer counts is named by none. -/
theorem transfer_window_ne {k : Nat} (h : s.transfersOn k = 0) {i : PortId} {x : Transfer}
    (hx : (s.port i).transfer = some x) : x.window ≠ k := by
  rintro rfl
  have := portOn_le_transfersOn s x.window i
  rw [h, portOn_same hx] at this
  omega

theorem transfersOn_eq_zero {k : Nat}
    (h : ∀ i x, (s.port i).transfer = some x → x.window ≠ k) : s.transfersOn k = 0 := by
  have hz : ∀ i, s.portOn k i = 0 := fun i => by
    unfold State.portOn
    rcases hx : (s.port i).transfer with _ | x
    · rfl
    · simp [h i x hx]
  rw [transfersOn_eq, hz, hz, hz]

theorem transfersOn_congr (h : ∀ i, (t.port i).transfer = (s.port i).transfer) (k : Nat) :
    t.transfersOn k = s.transfersOn k := by
  simp only [transfersOn_eq, State.portOn, h]

/-- The count after the transfer of one port is written. -/
theorem transfersOn_of_port {i : PortId} (h : ∀ j, j ≠ i → (t.port j).transfer = (s.port j).transfer)
    (k : Nat) : t.transfersOn k + s.portOn k i = s.transfersOn k + t.portOn k i := by
  have hj : ∀ j, j ≠ i → t.portOn k j = s.portOn k j := fun j hne => by
    simp only [State.portOn, h j hne]
  rw [transfersOn_eq, transfersOn_eq]
  cases i
  · rw [hj .nPort (by decide), hj .aPort (by decide)]; omega
  · rw [hj .pPort (by decide), hj .aPort (by decide)]; omega
  · rw [hj .pPort (by decide), hj .nPort (by decide)]; omega

end Sys2Proof.Machine
end

section
/-! SUPPORT. The work in flight stays accounted for under the changes of the Directory and the quiet-point
action (R7, R72, R79, R84, R85), and under requests that join the Move Queue or leave it (R119, R128, R129).
-/

namespace Sys2Proof.Machine

variable {s t : State}

/-! ### States that agree on what a part reads -/

theorem PhaseCoherent.congr (h : PhaseCoherent s) (hst : ∀ i, (t.port i).state = (s.port i).state)
    (htr : ∀ i, (t.port i).transfer = (s.port i).transfer) (hph : t.policy.phase = s.policy.phase)
    (hsu : t.retire.state.isStartUp = s.retire.state.isStartUp)
    (her : t.retire.endReport = s.retire.endReport) : PhaseCoherent t := by
  simpa only [PhaseCoherent, hst, htr, hph, hsu, her] using h

theorem PortsCoherent.congr (h : PortsCoherent s) (hst : ∀ i, (t.port i).state = (s.port i).state)
    (htr : ∀ i, (t.port i).transfer = (s.port i).transfer)
    (hcp : ∀ i, (t.port i).completion = (s.port i).completion) : PortsCoherent t := by
  simpa only [PortsCoherent, hst, htr, hcp] using h

theorem WorkCounted.congr (h : WorkCounted s) (hw : ∀ k, t.window? k = s.window? k)
    (htr : ∀ i, (t.port i).transfer = (s.port i).transfer)
    (hm : headRanges t.move.queue = headRanges s.move.queue) : WorkCounted t := by
  simpa only [WorkCounted, hw, transfersOn_congr htr, moveNames_eq, hm] using h

theorem RetireCoherent.congr (h : RetireCoherent s) (hw : ∀ k, t.window? k = s.window? k)
    (hq : t.retire.queue = s.retire.queue) (hs : t.retire.state = s.retire.state) :
    RetireCoherent t := by
  simpa only [RetireCoherent, hw, hq, hs] using h

theorem RangesHeld.congr (h : RangesHeld s) (hn : t.policy.nReserve = s.policy.nReserve)
    (hp : t.policy.pReserve = s.policy.pReserve) (hfit : t.EachWindow Window.BanksFit)
    (hrun : ∀ k n, t.bankRun k n = s.bankRun k n)
    (htr : ∀ i, (t.port i).transfer = (s.port i).transfer)
    (hm : headRanges t.move.queue = headRanges s.move.queue)
    (hs : t.retire.state = s.retire.state) : RangesHeld t := by
  have hr : t.bankRun = s.bankRun := funext fun k => funext (hrun k)
  obtain ⟨h1, -, h3, h4, h5⟩ := rangesHeld_iff.1 h
  refine rangesHeld_iff.2 ⟨?_, hfit, fun i x hx => ?_, ?_, ?_⟩
  · simpa only [ReservesAllowed, hn, hp] using h1
  · rw [hr]
    exact h3 i x (htr i ▸ hx)
  · rwa [hr, hm]
  · rwa [hr, hs]

theorem bankRun_congr (h : ∀ k, t.window? k = s.window? k) (k : Nat) (n : BankNo) :
    t.bankRun k n = s.bankRun k n := by
  simp only [State.bankRun, h]

theorem RangesHeld.banksFit (h : RangesHeld s) : s.EachWindow Window.BanksFit :=
  (rangesHeld_iff.1 h).2.1

/-- States alike in all that counts have the same work accounted for. -/
theorem WorkAccounted.same (h : WorkAccounted s) (hst : SameWork s t) : WorkAccounted t := by
  obtain ⟨hphase, hports, hmoves, hcount, hretire, hranges⟩ := h
  have hq : headRanges t.move.queue = headRanges s.move.queue := by rw [hst.move]
  refine ⟨hphase.congr hst.portState hst.transfer hst.phase ?_ ?_,
    hports.congr hst.portState hst.transfer hst.completion, ?_,
    hcount.congr hst.window hst.transfer hq, hretire.congr hst.window ?_ ?_,
    hranges.congr hst.nReserve hst.pReserve (hranges.banksFit.of_same hst.window)
      (bankRun_congr hst.window) hst.transfer hq ?_⟩
  · rw [hst.retire]
  · rw [hst.retire]
  · simpa only [MovesCoherent, hst.move] using hmoves
  · rw [hst.retire]
  · rw [hst.retire]
  · rw [hst.retire]

/-! ### One window written -/

/-- A window written in the place of another leaves its work and its pages, and joins the Retire Queue
where it becomes QUEUED (R79, R84). -/
structure Window.Stands (w : Window) (joins : Bool) (v : Window) : Prop where
  inFlight : v.inFlight = w.inFlight
  pinned : v.pinned = w.pinned
  run : ∀ n, v.run n = w.run n
  fit : w.BanksFit → v.BanksFit
  whenJoins : joins = true → (w.state = .live ∨ w.state = .draining) ∧ v.state = .queued ∧ w.quiet = true
  whenStays : joins = false → v.state = w.state ∨ (w.state = .live ∧ v.state = .draining)

theorem Window.Stands.quiet {w v : Window} {joins : Bool} (h : w.Stands joins v) :
    v.quiet = w.quiet := by
  simp only [Window.quiet, h.inFlight, h.pinned]

theorem Window.Change.stands {w v : Window} {joins : Bool} (h : w.Change joins v) :
    w.Stands joins v where
  inFlight := by
    cases h with
    | limited => rw [Window.setBank_eq]
    | _ => rfl
  pinned := by
    cases h with
    | limited => rw [Window.setBank_eq]
    | _ => rfl
  run := h.run
  fit := lasts_banksFit.change h
  whenJoins hj := by
    cases h with
    | retired cause hl =>
      exact ⟨.inl (by simpa [Window.isLive] using hl), by simp [Window.retired, hj], hj⟩
    | _ => cases hj
  whenStays hj := by
    cases h with
    | retired cause hl =>
      exact .inr ⟨by simpa [Window.isLive] using hl, by simp [Window.retired, hj]⟩
    | limited => exact .inl (by rw [Window.setBank_eq])
    | _ => exact .inl rfl

theorem Window.settled_stands (w : Window) : w.Stands w.joinsQueue w.settled where
  inFlight := by rw [Window.settled_eq]
  pinned := by rw [Window.settled_eq]
  run := w.settled_run
  fit h := by
    rw [Window.settled_eq]
    exact h.of_banks fun n => by cases n <;> rfl
  whenJoins hj := by
    have h := Bool.and_eq_true_iff.1 hj
    exact ⟨.inr (of_decide_eq_true h.2), by simp [Window.settled_eq, hj], h.1⟩
  whenStays hj := .inl (by simp [Window.settled_eq, hj])

theorem WorkCounted.of_stands {k : Nat} {w v : Window} {joins : Bool} (h : WorkCounted s)
    (hw : s.window? k = some w) (hv : w.Stands joins v)
    (ht : ∀ j, t.window? j = if k = j then some v else s.window? j)
    (htr : ∀ i, (t.port i).transfer = (s.port i).transfer)
    (hm : headRanges t.move.queue = headRanges s.move.queue) : WorkCounted t := by
  intro j u hu
  rw [ht j] at hu
  rw [transfersOn_congr htr, moveNames_eq, hm, ← moveNames_eq]
  split at hu
  · rename_i e
    cases hu
    subst e
    obtain ⟨h1, h2, h3⟩ := h k w hw
    refine ⟨hv.inFlight.trans h1, hv.pinned.trans h2, fun hq => ?_⟩
    rw [hv.quiet]
    cases joins
    · rcases hv.whenStays rfl with e | ⟨-, e⟩
      · exact h3 (e ▸ hq)
      · simp [e] at hq
    · exact (hv.whenJoins rfl).2.2
  · exact h j u hu

theorem RetireCoherent.of_put {k : Nat} {w v : Window} {joins : Bool} (h : RetireCoherent s)
    (hw : s.window? k = some w)
    (ht : ∀ j, t.window? j = if k = j then some v else s.window? j)
    (hq : t.retire.queue = s.retire.queue ++ if joins then [k] else [])
    (hs : t.retire.state = s.retire.state)
    (hjoins : joins = true → (w.state = .live ∨ w.state = .draining) ∧ v.state = .queued)
    (hstays : joins = false → v.state = w.state ∨ w.state = .live ∨ w.state = .draining) :
    RetireCoherent t := by
  obtain ⟨hall, hnodup, hclear⟩ := h
  have hne : ∀ {j u}, (w.state = .live ∨ w.state = .draining) → s.window? j = some u →
      (u.state = .queued ∨ u.state = .clearing) → k ≠ j := by
    rintro j u hl hu hst rfl
    cases hw.symm.trans hu
    rcases hl with e | e <;> simp [e] at hst
  have hkeep : ∀ {j u x}, s.window? j = some u → u.state = x → (x = .queued ∨ x = .clearing) →
      ∃ u', t.window? j = some u' ∧ u'.state = x := by
    rintro j u x hu rfl hx
    rw [ht j]
    by_cases hj : k = j
    · rw [if_pos hj]
      refine ⟨v, rfl, ?_⟩
      cases joins
      · rcases hstays rfl with e | hl
        · subst hj
          cases hw.symm.trans hu
          exact e
        · exact absurd hj (hne hl hu hx)
      · exact absurd hj (hne (hjoins rfl).1 hu hx)
    · rw [if_neg hj]
      exact ⟨u, hu, rfl⟩
  refine ⟨fun j hj => ?_, ?_, fun j swept hj => ?_⟩
  · rw [hq, List.mem_append] at hj
    rcases hj with hj | hj
    · obtain ⟨u, hu, hst⟩ := hall j hj
      exact hkeep hu hst (.inl rfl)
    · cases joins
      · cases hj
      · obtain rfl : j = k := by simpa using hj
        exact ⟨v, by simp [ht], (hjoins rfl).2⟩
  · rw [hq]
    refine List.nodup_append.2 ⟨hnodup, by split <;> simp, fun j hj i hi => ?_⟩
    cases joins
    · cases hi
    · obtain rfl : i = k := by simpa using hi
      obtain ⟨u, hu, hst⟩ := hall j hj
      exact (hne (hjoins rfl).1 hu (.inl hst)).symm
  · rw [hs] at hj
    obtain ⟨u, hu, hst⟩ := hclear j swept hj
    exact hkeep hu hst (.inr rfl)

/-- A window changed, with its place on the Retire Queue, keeps all work accounted for. -/
theorem WorkAccounted.putQueued {k : Nat} {w v : Window} {joins : Bool} (h : WorkAccounted s)
    (hw : s.window? k = some w) (hv : w.Stands joins v) : WorkAccounted (s.putQueued k v joins) := by
  obtain ⟨hphase, hports, hmoves, hcount, hretire, hranges⟩ := h
  have ht := fun j => s.window?_putQueued k j v joins
  exact ⟨hphase, hports, hmoves, hcount.of_stands hw hv ht (fun _ => rfl) rfl,
    hretire.of_put hw ht rfl rfl (fun hj => ⟨(hv.whenJoins hj).1, (hv.whenJoins hj).2.1⟩)
      (fun hj => (hv.whenStays hj).imp id fun h => .inl h.1),
    hranges.congr rfl rfl (hranges.banksFit.of_put (hv.fit (hranges.banksFit k w hw)) ht)
      (bankRun_of_put hw ht hv.run) (fun _ => rfl) rfl rfl⟩

/-- The quiet-point action keeps all work accounted for (R72, R84). -/
theorem WorkAccounted.quietPoint (h : WorkAccounted s) (k : Nat) : WorkAccounted (s.quietPoint k) := by
  rcases hw : s.window? k with _ | w
  · rw [State.quietPoint_eq, hw]
    exact h
  · obtain ⟨ns, e | e⟩ := State.quietPoint_eq_putQueued hw
    · rw [e]
      exact (h.putQueued hw w.settled_stands).same (sameWork_postAll _ _)
    · rw [e]
      exact h

theorem WorkAccounted.settleAll (ks : List Nat) (h : WorkAccounted s) :
    WorkAccounted (s.settleAll ks) := by
  unfold State.settleAll
  induction ks generalizing s with
  | nil => exact h
  | cons k ks ih => exact ih (h.quietPoint k)

/-! ### Requests that leave the Move Queue and requests that join it -/

/-- A request that runs is the head, and the engine is not IDLE (R117, R120). -/
theorem MovesCoherent.head_of_running (h : MovesCoherent s) {r : MoveRequest}
    (hr : r ∈ s.move.queue) (hrun : r.running = true) :
    s.move.state ≠ .idle ∧ s.move.queue.head? = some r := by
  obtain ⟨h1, h2, -⟩ := h
  rcases hq : s.move.queue with _ | ⟨r0, rest⟩
  · simp [hq] at hr
  · rw [hq] at hr h2 h1
    rcases List.mem_cons.1 hr with rfl | hm
    · exact ⟨h1.2 ⟨r, rest, rfl, hrun⟩, rfl⟩
    · exact absurd ((h2 r hm).symm.trans hrun) Bool.false_ne_true

/-- While the engine is IDLE no request runs (R120). -/
theorem MovesCoherent.not_running (h : MovesCoherent s) (hi : s.move.state = .idle) {r : MoveRequest}
    (hr : r ∈ s.move.queue) : r.running = false := by
  by_contra hrun
  exact (h.head_of_running hr (by simpa using hrun)).1 hi

/-- A request that does not run addresses nothing yet (R121). -/
theorem MovesCoherent.ranges_none (h : MovesCoherent s) {r : MoveRequest} (hr : r ∈ s.move.queue)
    (hrun : r.running = false) : r.ranges = none := by
  obtain ⟨-, -, -, h4⟩ := h
  rcases hx : r.resolved with _ | x
  · simp [MoveRequest.ranges, hx]
  · have := (h4 r hr).1 (by simp [hx])
    rw [hrun] at this
    cases this

theorem mem_prunedQueue {keep : MoveRequest → Bool} {mark : MoveRequest → MoveRequest}
    {q : List MoveRequest} {r : MoveRequest} (h : r ∈ prunedQueue keep mark q) :
    ∃ r0 ∈ q, r = mark r0 := by
  obtain ⟨r0, hr0, rfl⟩ := List.mem_map.1 h
  exact ⟨r0, (List.mem_filter.1 hr0).1, rfl⟩

theorem prunedQueue_cons (keep : MoveRequest → Bool) (mark : MoveRequest → MoveRequest)
    (r : MoveRequest) (q : List MoveRequest) :
    prunedQueue keep mark (r :: q)
      = if r.running || keep r then mark r :: prunedQueue keep mark q else prunedQueue keep mark q := by
  unfold prunedQueue
  rw [List.filter_cons]
  split <;> rfl

theorem mem_tail_prunedQueue {keep : MoveRequest → Bool} {mark : MoveRequest → MoveRequest}
    {q : List MoveRequest} {r : MoveRequest} (h : r ∈ (prunedQueue keep mark q).tail) :
    ∃ r0 ∈ q.tail, r = mark r0 := by
  cases q with
  | nil => cases h
  | cons r1 q =>
    rw [prunedQueue_cons] at h
    split at h
    · exact mem_prunedQueue h
    · exact mem_prunedQueue (List.mem_of_mem_tail h)

/-- The marks of a request change nothing that the engine works with. -/
theorem OnlyMarks.keeps {mark : MoveRequest → MoveRequest} (h : OnlyMarks mark) (r : MoveRequest) :
    (mark r).running = r.running ∧ (mark r).resolved = r.resolved ∧ (mark r).progress = r.progress
      ∧ (mark r).count = r.count ∧ (mark r).ranges = r.ranges := by
  obtain ⟨a, b, e⟩ := h r
  rw [e]
  exact ⟨rfl, rfl, rfl, rfl, rfl⟩

theorem headRanges_eq_none {q : List MoveRequest} (h : ∀ r ∈ q, r.ranges = none) :
    headRanges q = none := by
  cases q with
  | nil => rfl
  | cons r q => exact h r (List.mem_cons_self ..)

/-- The requests kept are as coherent as those before, and the head addresses what it did. -/
theorem MovesCoherent.pruned {keep : MoveRequest → Bool} {mark : MoveRequest → MoveRequest}
    (h : MovesCoherent s) (hm : OnlyMarks mark) :
    MovesCoherent { s with move.queue := prunedQueue keep mark s.move.queue }
      ∧ headRanges (prunedQueue keep mark s.move.queue) = headRanges s.move.queue := by
  have htail : ∀ r ∈ (prunedQueue keep mark s.move.queue).tail, r.running = false := by
    intro r hr
    obtain ⟨r0, hr0, rfl⟩ := mem_tail_prunedQueue hr
    exact (hm.keeps r0).1.trans (h.2.1 r0 hr0)
  have hall : ∀ r ∈ prunedQueue keep mark s.move.queue,
      (r.resolved.isSome = true → r.running = true) ∧ r.progress ≤ r.count
        ∧ (r.running = false → r.progress = 0) := by
    intro r hr
    obtain ⟨r0, hr0, rfl⟩ := mem_prunedQueue hr
    obtain ⟨e1, e2, e3, e4, -⟩ := hm.keeps r0
    simpa only [e1, e2, e3, e4] using h.2.2.2 r0 hr0
  by_cases hi : s.move.state = .idle
  · have hnone : ∀ r ∈ prunedQueue keep mark s.move.queue, r.running = false ∧ r.ranges = none := by
      intro r hr
      obtain ⟨r0, hr0, rfl⟩ := mem_prunedQueue hr
      obtain ⟨e1, -, -, -, e5⟩ := hm.keeps r0
      rw [e1, e5]
      exact ⟨h.not_running hi hr0, h.ranges_none hr0 (h.not_running hi hr0)⟩
    refine ⟨⟨⟨fun hne => absurd hi hne, ?_⟩, htail, fun hs => absurd (hs.symm.trans hi) (by simp), hall⟩,
      ?_⟩
    · rintro ⟨r, rest, hq, hrun⟩
      have hr : r ∈ prunedQueue keep mark s.move.queue := by
        rw [show prunedQueue keep mark s.move.queue = r :: rest from hq]
        exact List.mem_cons_self ..
      exact absurd ((hnone r hr).1.symm.trans hrun) Bool.false_ne_true
    · rw [headRanges_eq_none fun r hr => (hnone r hr).2,
        headRanges_eq_none fun r hr => h.ranges_none hr (h.not_running hi hr)]
  · obtain ⟨r, rest, hq, hrun⟩ := h.1.1 hi
    have hp : prunedQueue keep mark s.move.queue = mark r :: prunedQueue keep mark rest := by
      rw [hq, prunedQueue_cons, hrun]
      rfl
    obtain ⟨e1, e2, e3, -, e5⟩ := hm.keeps r
    refine ⟨⟨⟨fun _ => ⟨mark r, _, hp, e1.trans hrun⟩, fun _ => hi⟩, htail, fun hs r' hr' => ?_, hall⟩,
      ?_⟩
    · simp only [hp, List.head?_cons, Option.some.injEq] at hr'
      rw [← hr', e2, e3]
      exact h.2.2.1 hs r (by simp [hq])
    · rw [headRanges, hp, headRanges, hq]
      exact e5

/-- A request that waits at the tail leaves the engine as it was (R119). -/
theorem MovesCoherent.joined {r : MoveRequest} (h : MovesCoherent s) (h1 : r.running = false)
    (h2 : r.resolved = none) (h3 : r.progress = 0) :
    MovesCoherent { s with move.queue := s.move.queue ++ [r] }
      ∧ headRanges (s.move.queue ++ [r]) = headRanges s.move.queue := by
  have hall : ∀ r' ∈ s.move.queue ++ [r],
      (r'.resolved.isSome = true → r'.running = true) ∧ r'.progress ≤ r'.count
        ∧ (r'.running = false → r'.progress = 0) := by
    intro r' hr'
    rcases List.mem_append.1 hr' with hr' | hr'
    · exact h.2.2.2 r' hr'
    · obtain rfl : r' = r := by simpa using hr'
      simp [h2, h3]
  rcases hq : s.move.queue with _ | ⟨r0, rest⟩
  · have hi : s.move.state = .idle := by
      by_contra hi
      obtain ⟨_, _, e, -⟩ := h.1.1 hi
      simp [hq] at e
    rw [hq] at hall
    refine ⟨⟨⟨fun hne => absurd hi hne, ?_⟩, by simp, fun hs => absurd (hs.symm.trans hi) (by simp),
      hall⟩, by simp [headRanges, MoveRequest.ranges, h2]⟩
    rintro ⟨r', rest, e, hrun⟩
    obtain rfl : r = r' := (List.cons.inj e).1
    exact absurd (h1.symm.trans hrun) Bool.false_ne_true
  · rw [hq] at hall
    obtain ⟨g1, g2, g3, -⟩ := h
    rw [hq] at g1 g2 g3
    refine ⟨⟨⟨fun hne => ?_, ?_⟩, fun r' hr' => ?_, g3, hall⟩, rfl⟩
    · obtain ⟨_, _, e, hrun⟩ := g1.1 hne
      cases e
      exact ⟨_, _, rfl, hrun⟩
    · rintro ⟨r', _, e, hrun⟩
      obtain rfl : r0 = r' := (List.cons.inj e).1
      exact g1.2 ⟨r0, rest, rfl, hrun⟩
    · rcases List.mem_append.1 hr' with hr' | hr'
      · exact g2 r' hr'
      · obtain rfl : r' = r := by simpa using hr'
        exact h1

/-- The Move Engine written, coherent and with the head addressing what it did. -/
theorem WorkAccounted.withMove {m : MoveEngine} (h : WorkAccounted s)
    (hm : MovesCoherent { s with move := m }) (hq : headRanges m.queue = headRanges s.move.queue) :
    WorkAccounted { s with move := m } := by
  obtain ⟨hphase, hports, -, hcount, hretire, hranges⟩ := h
  exact ⟨hphase, hports, hm, hcount.congr (fun _ => rfl) (fun _ => rfl) hq, hretire,
    hranges.congr rfl rfl hranges.banksFit (fun _ _ => rfl) (fun _ => rfl) hq rfl⟩

/-- A run of changes of the Directory keeps all work accounted for. -/
theorem WorkAccounted.leads (h : WorkAccounted s) (hl : s.Leads t) : WorkAccounted t := by
  refine hl.keeps (P := WorkAccounted) (fun s t hact h => ?_) h
  cases hact with
  | same hst => exact h.same hst
  | window hw hc => exact h.putQueued hw hc.stands
  | pruned keep mark hm =>
    obtain ⟨h1, h2⟩ := h.2.2.1.pruned (keep := keep) hm
    exact h.withMove h1 h2
  | joined r h1 h2 h3 =>
    obtain ⟨g1, g2⟩ := h.2.2.1.joined h1 h2 h3
    exact h.withMove g1 g2

end Sys2Proof.Machine
end

section
/-! SUPPORT. The work in flight stays accounted for under each event that moves work on, and so under every
step (R7, R50, R51, R85, R103, R105, R117, R120, R121, R122, R160).
-/

namespace Sys2Proof.Machine

variable {s t : State}

/-! ### Ports -/

theorem PhaseCoherent.setPort {i : PortId} {y : Port} (h : PhaseCoherent s)
    (hy : y.state = .notReady ↔ (s.port i).state = .notReady)
    (htr : s.policy.phase ≠ .starting ∨ y.transfer = none) : PhaseCoherent (s.setPort i y) := by
  obtain ⟨h1, h2, h3, h4⟩ := h
  refine ⟨fun j => ?_, fun hp j => ?_, h3, h4⟩
  · rw [State.port_setPort]
    split
    · rename_i e
      subst e
      exact hy.trans (h1 j)
    · exact h1 j
  · rw [State.port_setPort]
    split
    · exact htr.resolve_left fun hne => hne hp
    · exact h2 hp j

theorem PortsCoherent.setPort {i : PortId} {y : Port} (h : PortsCoherent s)
    (hy : y.transfer.isSome = true ↔ y.state = .executing ∨ y.state = .resetting)
    (hc : y.completion.isSome = true → y.transfer.isSome = true) : PortsCoherent (s.setPort i y) := by
  intro j
  rw [State.port_setPort]
  split
  · exact ⟨hy, hc⟩
  · exact h j

/-- A port that is IDLE has no transfer, and the phase is not STARTING (R160). -/
theorem WorkAccounted.idle {i : PortId} (h : WorkAccounted s) (hi : (s.port i).state = .idle) :
    (s.port i).transfer = none ∧ s.policy.phase ≠ .starting := by
  obtain ⟨⟨h1, -⟩, h2, -⟩ := h
  constructor
  · by_contra hne
    have := (h2 i).1.1 (Option.ne_none_iff_isSome.1 hne)
    simp [hi] at this
  · intro hp
    have := (h1 i).2 hp
    simp [hi] at this

/-- A port that has a transfer is EXECUTING or RESETTING, and the phase is not STARTING (R160). -/
theorem WorkAccounted.busy {i : PortId} {x : Transfer} (h : WorkAccounted s)
    (hx : (s.port i).transfer = some x) :
    ((s.port i).state = .executing ∨ (s.port i).state = .resetting) ∧ s.policy.phase ≠ .starting := by
  obtain ⟨⟨-, h1, -⟩, h2, -⟩ := h
  refine ⟨(h2 i).1.1 (by simp [hx]), fun hp => ?_⟩
  simp [h1 hp i] at hx

/-! ### The policy -/

theorem WorkAccounted.reserved {n p : Nat} (h : WorkAccounted s) (hn : n ∈ [0, 128, 256, 512])
    (hp : p ∈ [0, 128, 256, 512, 1024]) :
    WorkAccounted { s with policy.nReserve := n, policy.pReserve := p } := by
  obtain ⟨hphase, hports, hmoves, hcount, hretire, hranges⟩ := h
  obtain ⟨-, hrest⟩ := rangesHeld_iff.1 hranges
  exact ⟨hphase, hports, hmoves, hcount, hretire, rangesHeld_iff.2 ⟨⟨hn, hp⟩, hrest⟩⟩

theorem WorkAccounted.locked {i : PortId} (h : WorkAccounted s) (hi : (s.port i).state = .idle) :
    WorkAccounted { s with policy.phase := .running } := by
  obtain ⟨-, hp⟩ := h.idle hi
  obtain ⟨⟨h1, h2, h3, h4⟩, hrest⟩ := h
  exact ⟨⟨fun j => ⟨fun hj => absurd ((h1 j).1 hj) hp, fun e => nomatch e⟩, fun e => (nomatch e),
    fun hs => absurd (h3 hs).1 hp, fun he => absurd (h4 he) hp⟩, hrest⟩

/-! ### Transfers -/

theorem portOn_setPort (s : State) (i : PortId) (y : Port) (k : Nat) :
    (s.setPort i y).portOn k i = if y.transfer.map Transfer.window = some k then 1 else 0 := by
  simp [State.portOn]

theorem transfersOn_setPort (s : State) (i : PortId) (y : Port) (k : Nat) :
    (s.setPort i y).transfersOn k + s.portOn k i
      = s.transfersOn k + if y.transfer.map Transfer.window = some k then 1 else 0 := by
  rw [← portOn_setPort s i y k]
  exact transfersOn_of_port (fun j hj => by rw [State.port_setPort, if_neg hj]) k

theorem run_inFlight (w : Window) (n : Nat) (m : BankNo) :
    ({ w with inFlight := n } : Window).run m = w.run m := by
  cases m <;> rfl

/-- Admission keeps all work accounted for (R49 to R51). -/
theorem WorkAccounted.admitted {i : PortId} {x : Transfer} {w : Window} {b : Bank} (h : WorkAccounted s)
    (hi : (s.port i).state = .idle) (hw : s.window? x.window = some w) (hl : w.isLive = true)
    (hb : w.bank? x.bank = some b) (hr : x.offset + x.count ≤ b.limit) :
    WorkAccounted ((s.putWindow x.window { w with inFlight := w.inFlight + 1 }).setPort i
      { s.port i with state := .executing, transfer := some x, completion := none }) := by
  obtain ⟨hnone, hphase⟩ := h.idle hi
  have hstate : w.state = .live := by simpa [Window.isLive] using hl
  obtain ⟨h1, h2, hmoves, hcount, hretire, hranges⟩ := h
  have hput := fun j => s.window?_putWindow x.window j { w with inFlight := w.inFlight + 1 }
  have hrun := bankRun_of_put hw hput fun n => run_inFlight w _ n
  refine ⟨PhaseCoherent.setPort (s := s.putWindow x.window _) h1 (by simp [hi]) (.inl hphase),
    PortsCoherent.setPort (s := s.putWindow x.window _) h2 (by simp) (by simp), hmoves,
    fun j v hv => ?_, hretire.of_put (joins := false) hw hput (by simp) rfl nofun
      (fun _ => .inl rfl), ?_⟩
  · have hold : s.portOn j i = 0 := by simp [State.portOn, hnone]
    have hport : _ + s.portOn j i = s.transfersOn j + _ :=
      transfersOn_setPort (s.putWindow x.window { w with inFlight := w.inFlight + 1 }) i
        { s.port i with state := .executing, transfer := some x, completion := none } j
    simp only [hold, Nat.add_zero, Option.map_some, Option.some.injEq] at hport
    rw [hport]
    have hv' := (hput j).symm.trans hv
    split at hv'
    · rename_i e
      cases hv'
      subst e
      obtain ⟨c1, c2, -⟩ := hcount x.window w hw
      exact ⟨by simp [c1], c2, by simp [hstate]⟩
    · rename_i e
      rw [if_neg e]
      exact hcount j v hv'
  · obtain ⟨hres, hfit, htr, hmove, hret⟩ := rangesHeld_iff.1 hranges
    have hrun' : (s.putWindow x.window { w with inFlight := w.inFlight + 1 }).bankRun = s.bankRun :=
      funext fun k => funext (hrun k)
    refine rangesHeld_iff.2 ⟨hres, State.EachWindow.of_put hfit
      (Window.BanksFit.of_banks (hfit _ _ hw) fun n => by cases n <;> rfl) hput, fun j y hy => ?_,
      hrun'.symm ▸ hmove, hrun'.symm ▸ hret⟩
    rw [State.port_setPort] at hy
    change RunHolds ((s.putWindow x.window _).bankRun y.window y.bank) _ _
    rw [hrun']
    split at hy
    · cases hy
      exact ⟨_, _, bankRun_of_window hw hb, le_trans hr (hfit _ _ hw _ _ hb).2.1⟩
    · exact htr j y hy

/-- A port reset that waits keeps all work accounted for (R166). -/
theorem WorkAccounted.waits {i : PortId} (h : WorkAccounted s) (hi : (s.port i).state = .executing) :
    WorkAccounted (s.setPort i { s.port i with state := .resetting }) := by
  obtain ⟨h1, h2, hmoves, hcount, hretire, hranges⟩ := h
  have hsome : (s.port i).transfer.isSome = true := (h2 i).1.2 (.inl hi)
  have htr : ∀ j, ((s.setPort i { s.port i with state := .resetting }).port j).transfer
      = (s.port j).transfer := fun j => by
    rw [State.port_setPort]
    split
    · rename_i e
      rw [e]
    · rfl
  refine ⟨h1.setPort (by simp [hi]) (.inl fun hp => ?_), h2.setPort (by simp [hsome]) (h2 i).2, hmoves,
    hcount.congr (fun _ => rfl) htr rfl, hretire,
    hranges.congr rfl rfl hranges.banksFit (fun _ _ => rfl) htr rfl rfl⟩
  simp [h1.2.1 hp i] at hsome

/-- A grant of a port keeps all work accounted for (R51). -/
theorem WorkAccounted.granted {i : PortId} {x : Transfer} {c : Completion} {m : Memory}
    (h : WorkAccounted s) (hx : (s.port i).transfer = some x) :
    WorkAccounted { s.setPort i { s.port i with completion := some c } with xm := m } := by
  obtain ⟨h1, h2, hmoves, hcount, hretire, hranges⟩ := h
  have htr : ∀ j, ((s.setPort i { s.port i with completion := some c }).port j).transfer
      = (s.port j).transfer := fun j => by
    rw [State.port_setPort]
    split
    · rename_i e
      rw [e]
    · rfl
  have hst : ∀ j, ((s.setPort i { s.port i with completion := some c }).port j).state
      = (s.port j).state := fun j => by
    rw [State.port_setPort]
    split
    · rename_i e
      rw [e]
    · rfl
  exact ⟨h1.congr hst htr rfl rfl rfl, h2.setPort (h2 i).1 (by simp [hx]), hmoves,
    hcount.congr (fun _ => rfl) htr rfl, hretire,
    hranges.congr rfl rfl hranges.banksFit (fun _ _ => rfl) htr rfl rfl⟩

/-! ### Operations on windows that the Retire Queue does not see -/

theorem State.setDamaged_retire (s : State) (k : Nat) : (s.setDamaged k).retire = s.retire := by
  rw [State.setDamaged_eq]
  split
  · rfl
  · split <;> rfl

theorem State.lowerTransfer_retire (s : State) (x : Transfer) (c : Completion) :
    (s.lowerTransfer x c).retire = s.retire := by
  have h : (s.lowerInFlight x.window).retire = s.retire := by
    unfold State.lowerInFlight
    split <;> rfl
  unfold State.lowerTransfer
  split
  · rw [State.setDamaged_retire, h]
  · exact h

theorem State.releasePin_retire (s : State) (k : Nat) : (s.releasePin k).retire = s.retire := by
  unfold State.releasePin
  split <;> rfl

theorem State.pin_retire (s : State) (k : Nat) : (s.pin k).retire = s.retire := by
  unfold State.pin
  split <;> rfl

theorem KeepsWork.portState (h : KeepsWork s t) (i : PortId) : (t.port i).state = (s.port i).state := by
  obtain ⟨_, _, e⟩ := h.port i
  rw [e]

theorem KeepsWork.transfer (h : KeepsWork s t) (i : PortId) :
    (t.port i).transfer = (s.port i).transfer := by
  obtain ⟨_, _, e⟩ := h.port i
  rw [e]

theorem KeepsWork.completion (h : KeepsWork s t) (i : PortId) :
    (t.port i).completion = (s.port i).completion := by
  obtain ⟨_, _, e⟩ := h.port i
  rw [e]

theorem KeepsWork.phaseCoherent (hk : KeepsWork s t) (h : PhaseCoherent s) : PhaseCoherent t :=
  h.congr hk.portState hk.transfer (by rw [hk.policy]) (by rw [hk.retireState]) hk.endReport

theorem KeepsWork.portsCoherent (hk : KeepsWork s t) (h : PortsCoherent s) : PortsCoherent t :=
  h.congr hk.portState hk.transfer hk.completion

theorem MovesCoherent.congr (h : MovesCoherent s) (hm : t.move = s.move) : MovesCoherent t := by
  simpa only [MovesCoherent, hm] using h

/-- Windows changed in place, each with its state, leave the Retire Queue coherent. -/
theorem RetireCoherent.of_map {c : Nat → Prop} [DecidablePred c] {f : Nat → Window → Window}
    (h : RetireCoherent s)
    (ht : ∀ j, t.window? j = if c j then (s.window? j).map (f j) else s.window? j)
    (hf : ∀ j w, (f j w).state = w.state) (hr : t.retire = s.retire) : RetireCoherent t := by
  have hkeep : ∀ {j x}, (∃ w, s.window? j = some w ∧ w.state = x) →
      ∃ w, t.window? j = some w ∧ w.state = x := by
    rintro j x ⟨w, hw, hx⟩
    rw [ht j]
    split
    · exact ⟨f j w, by simp [hw], (hf j w).trans hx⟩
    · exact ⟨w, hw, hx⟩
  obtain ⟨h1, h2, h3⟩ := h
  rw [RetireCoherent, hr]
  exact ⟨fun j hj => hkeep (h1 j hj), h2, fun j swept hj => hkeep (h3 j swept hj)⟩

/-- The end of a transfer, before its quiet point, keeps all work accounted for (R55). -/
theorem WorkAccounted.lowered {i : PortId} {x : Transfer} {c : Completion} {last : LastResult}
    (h : WorkAccounted s) (hx : (s.port i).transfer = some x) :
    WorkAccounted ((s.lowerTransfer x c).freePort i last) := by
  obtain ⟨hbusy, hphase⟩ := h.busy hx
  obtain ⟨h1, h2, hmoves, hcount, hretire, hranges⟩ := h
  have hk := keepsWork_lowerTransfer s x c
  have hwin := s.window?_lowerTransfer x c
  have hrun : (s.lowerTransfer x c).bankRun = s.bankRun := funext fun k => funext fun n =>
    bankRun_of_map (c := (· = x.window)) (f := fun _ w => w.lowered (x.damages c)) hwin
      (fun _ _ _ _ => by cases n <;> rfl) k n
  have hq : headRanges (s.lowerTransfer x c).move.queue = headRanges s.move.queue := by rw [hk.move]
  refine ⟨(hk.phaseCoherent h1).setPort ?_ (.inl (hk.policy ▸ hphase)),
    (hk.portsCoherent h2).setPort (by simp) (by simp),
    hmoves.congr hk.move, fun j v hv => ?_,
    hretire.of_map (f := fun _ w => w.lowered (x.damages c)) hwin (fun _ _ => rfl)
      (s.lowerTransfer_retire x c), ?_⟩
  · rw [hk.portState]
    rcases hbusy with e | e <;> simp [e]
  · have hport := transfersOn_setPort (s.lowerTransfer x c) i
      { (s.lowerTransfer x c).port i with
        state := .idle, transfer := none, completion := none, last := last } j
    have hold : (s.lowerTransfer x c).portOn j i = if x.window = j then 1 else 0 := by
      simp [State.portOn, hk.transfer, hx]
    rw [transfersOn_congr hk.transfer, hold] at hport
    have hport' : ((s.lowerTransfer x c).freePort i last).transfersOn j
        + (if x.window = j then 1 else 0) = s.transfersOn j := by simpa [State.freePort] using hport
    have hnames : ((s.lowerTransfer x c).freePort i last).moveNames j = s.moveNames j := by
      rw [moveNames_eq, moveNames_eq]
      exact congrArg (fun y => Option.any _ y) hq
    have hv' := (hwin j).symm.trans hv
    rw [hnames]
    by_cases hj : j = x.window
    · subst hj
      rw [if_pos rfl] at hv' hport'
      obtain ⟨w, hw, rfl⟩ := Option.map_eq_some_iff.1 hv'
      obtain ⟨c1, c2, c3⟩ := hcount x.window w hw
      refine ⟨by simp only [Window.lowered]; omega, c2, fun hst => ?_⟩
      have := c3 hst
      simp only [Window.quiet, Bool.and_eq_true, decide_eq_true_eq] at this
      omega
    · rw [if_neg hj] at hv'
      rw [if_neg (Ne.symm hj)] at hport'
      obtain ⟨c1, c2, c3⟩ := hcount j v hv'
      exact ⟨c1.trans (by omega), c2, c3⟩
  · obtain ⟨hres, hfit, htr, hmove, hret⟩ := rangesHeld_iff.1 hranges
    refine rangesHeld_iff.2 ⟨?_, hfit.of_map (c := (· = x.window)) (f := fun _ w => w.lowered (x.damages c))
      (fun _ _ hw => hw.of_banks fun n => by cases n <;> rfl) hwin, fun j y hy => ?_, ?_, ?_⟩
    · exact (show (s.lowerTransfer x c).policy = s.policy from hk.policy) ▸ hres
    · change RunHolds ((s.lowerTransfer x c).bankRun y.window y.bank) _ _
      rw [hrun]
      rw [State.freePort, State.port_setPort] at hy
      split at hy
      · cases hy
      · exact htr j y (hk.transfer j ▸ hy)
    · change MoveHeld (s.lowerTransfer x c).bankRun (headRanges (s.lowerTransfer x c).move.queue)
      rwa [hrun, hq]
    · change RetireHeld (s.lowerTransfer x c).bankRun (s.lowerTransfer x c).retire.state
      rwa [hrun, State.lowerTransfer_retire]

/-! ### The Move Engine -/

/-- The head of the Move Queue written as a request that runs, with the engine not IDLE. -/
theorem MovesCoherent.withHead {r : MoveRequest} {x : MoveState} {c : Nat} {p : Table Byte}
    (h : MovesCoherent s) (hx : x ≠ .idle) (hrun : r.running = true) (hle : r.progress ≤ r.count)
    (hstart : x = .startCheck → r.resolved = none ∧ r.progress = 0 ∧ c = 0) :
    MovesCoherent { s with move := ⟨r :: s.move.queue.tail, x, c, p⟩ } := by
  refine ⟨⟨fun _ => ⟨r, _, rfl, hrun⟩, fun _ => hx⟩, h.2.1, fun hs r' hr' => ?_, fun r' hr' => ?_⟩
  · obtain rfl : r = r' := Option.some.inj hr'
    exact hstart hs
  · rcases List.mem_cons.1 hr' with rfl | hr'
    · exact ⟨fun _ => hrun, hle, fun hn => absurd (hn.symm.trans hrun) Bool.false_ne_true⟩
    · exact h.2.2.2 r' (List.mem_of_mem_tail hr')

/-- The head runs while the engine is not IDLE (R120). -/
theorem MovesCoherent.head_running {r : MoveRequest} (h : MovesCoherent s) (hs : s.move.state ≠ .idle)
    (hr : s.move.queue.head? = some r) : r.running = true := by
  obtain ⟨r', rest, hq, hrun⟩ := h.1.1 hs
  rw [hq] at hr
  exact Option.some.inj hr ▸ hrun

theorem headRanges_of_head {q : List MoveRequest} {r : MoveRequest} (h : q.head? = some r) :
    headRanges q = r.ranges := by
  rw [headRanges, h]
  rfl

/-- The taking of the head keeps all work accounted for (R120). -/
theorem WorkAccounted.moveTaken {r : MoveRequest} (h : WorkAccounted s) (hs : s.move.state = .idle)
    (hr : s.move.queue.head? = some r) :
    WorkAccounted { s.setMoveHead { r with running := true } with
      move.state := .startCheck, move.corrected := 0 } := by
  have hm := h.2.2.1
  have hmem := List.mem_of_head? hr
  have hrun := hm.not_running hs hmem
  have hnone := hm.ranges_none hmem hrun
  have hp : r.progress = 0 := (hm.2.2.2 r hmem).2.2 hrun
  have hres : r.resolved = none := by simpa [MoveRequest.ranges] using hnone
  refine h.withMove (m := ⟨{ r with running := true } :: s.move.queue.tail, .startCheck, 0, s.move.pattern⟩)
    (hm.withHead (by simp) rfl (hm.2.2.2 r hmem).2.1 fun _ => ⟨hres, hp, rfl⟩) ?_
  rw [headRanges_of_head hr]
  rfl

/-- Progress of the running move keeps all work accounted for (R122, R126). -/
theorem WorkAccounted.moveAdvanced {r : MoveRequest} {n : Nat} {x : MoveState} {c : Nat}
    {p : Table Byte} {m : Memory} (h : WorkAccounted s) (hs : s.move.state ≠ .idle)
    (hr : s.move.queue.head? = some r) (hn : n ≤ r.count - r.progress)
    (hx : x ≠ .idle ∧ x ≠ .startCheck) :
    WorkAccounted { s with
      xm := m, move := ⟨{ r with progress := r.progress + n } :: s.move.queue.tail, x, c, p⟩ } := by
  have hm := h.2.2.1
  have hle := (hm.2.2.2 r (List.mem_of_head? hr)).2.1
  refine WorkAccounted.withMove (s := { s with xm := m })
    (m := ⟨{ r with progress := r.progress + n } :: s.move.queue.tail, x, c, p⟩) h
    (hm.withHead hx.1 (hm.head_running hs hr :) (by simp only; omega) fun e => absurd e hx.2) ?_
  rw [headRanges_of_head hr]
  rfl

theorem State.startMove_eq (s : State) (r : MoveRequest) (x : Resolved) :
    ∃ y, (y = .pattern ∨ y = .chunkGrant) ∧ s.startMove r x
      = { ((s.setMoveHead { r with resolved := some x }).pin x.srcWindow).pin x.dstWindow with
          move.state := y } := by
  unfold State.startMove
  split
  · exact ⟨_, .inl rfl, rfl⟩
  · exact ⟨_, .inr rfl, rfl⟩
  · exact ⟨_, .inr rfl, rfl⟩

/-- The start of a move writes the head, the state of the engine and the two pins (R121). -/
theorem State.startMove_keeps (s : State) (r : MoveRequest) (x : Resolved) :
    ∃ y, (y = .pattern ∨ y = .chunkGrant)
      ∧ KeepsWork { s with move := ⟨{ r with resolved := some x } :: s.move.queue.tail, y,
          s.move.corrected, s.move.pattern⟩ } (s.startMove r x) := by
  have hk := (keepsWork_pin (s.setMoveHead { r with resolved := some x }) x.srcWindow).trans
    (keepsWork_pin _ x.dstWindow)
  obtain ⟨y, hy, e⟩ := s.startMove_eq r x
  refine ⟨y, hy, ?_⟩
  rw [e]
  exact ⟨hk.tamper, hk.alloc, hk.xm, congrArg (fun m : MoveEngine => { m with state := y }) hk.move,
    hk.retireState, hk.endReport, hk.policy, hk.port⟩

theorem State.startMove_retire (s : State) (r : MoveRequest) (x : Resolved) :
    (s.startMove r x).retire = s.retire := by
  change (((s.setMoveHead { r with resolved := some x }).pin x.srcWindow).pin x.dstWindow).retire = _
  rw [State.pin_retire, State.pin_retire]
  rfl

theorem run_pinned (w : Window) (b : Bool) (n : BankNo) :
    ({ w with pinned := b } : Window).run n = w.run n := by
  cases n <;> rfl

/-- The start of a move keeps all work accounted for (R121, R122). -/
theorem WorkAccounted.moveStarted {r : MoveRequest} {x : Resolved} (h : WorkAccounted s)
    (hs : s.move.state = .startCheck) (hr : s.move.queue.head? = some r)
    (hx : checkStart s r = .ok x) : WorkAccounted (s.startMove r x) := by
  obtain ⟨sw, dw, sb, db, hsw, hdw, hsl, hdl, -, -, hsb, hdb, hsr, hdr⟩ := checkStart_ok hx
  obtain ⟨h1, h2, hm, hcount, hretire, hranges⟩ := h
  obtain ⟨hres, hfit, htr, -, hret⟩ := rangesHeld_iff.1 hranges
  obtain ⟨y, hy, hk⟩ := s.startMove_keeps r x
  have hmem := List.mem_of_head? hr
  have hne : s.move.state ≠ .idle := by simp [hs]
  have hwin := s.window?_startMove r x
  have hrun : (s.startMove r x).bankRun = s.bankRun := funext fun k => funext fun n =>
    bankRun_of_map (f := fun _ w => { w with pinned := true }) hwin (fun _ w _ _ => run_pinned w _ _) k n
  have hnone : headRanges s.move.queue = none := by
    rw [headRanges_of_head hr]
    simp [MoveRequest.ranges, (hm.2.2.1 hs r hr).1]
  have hhead : headRanges (s.startMove r x).move.queue
      = some ⟨x, r.srcOffset, r.mode.sourceSpan r.count, r.dstOffset, r.count⟩ := by
    rw [hk.move]
    rfl
  refine ⟨hk.phaseCoherent h1,
    hk.portsCoherent h2,
    (hm.withHead (r := { r with resolved := some x }) ?_ (hm.head_running hne hr :)
      (hm.2.2.2 r hmem).2.1 ?_).congr hk.move, fun j v hv => ?_,
    hretire.of_map (f := fun _ w => { w with pinned := true }) hwin (fun _ _ => rfl)
      (s.startMove_retire r x), rangesHeld_iff.2 ⟨?_, hfit.of_map
        (f := fun _ w => { w with pinned := true })
        (fun _ _ hw => hw.of_banks fun n => by cases n <;> rfl) hwin, fun i z hz => ?_, ?_, ?_⟩⟩
  · rcases hy with rfl | rfl <;> simp
  · rcases hy with rfl | rfl <;> simp
  · have htrans : (s.startMove r x).transfersOn j = s.transfersOn j :=
      transfersOn_congr (s := { s with move := _ }) hk.transfer j
    have hnames : (s.startMove r x).moveNames j
        = (decide (x.srcWindow = j) || decide (x.dstWindow = j)) := by
      rw [moveNames_eq, hhead]
      rfl
    rw [hwin j] at hv
    rw [htrans, hnames]
    split at hv
    · rename_i hj
      obtain ⟨w, hw, rfl⟩ := Option.map_eq_some_iff.1 hv
      have hlive : w.isLive = true := by
        rcases hj with rfl | rfl
        · exact Option.some.inj (hsw.symm.trans hw) ▸ hsl
        · exact Option.some.inj (hdw.symm.trans hw) ▸ hdl
      have hstate : w.state = .live := by simpa [Window.isLive] using hlive
      refine ⟨(hcount j w hw).1, ?_, by simp [hstate]⟩
      rcases hj with rfl | rfl <;> simp
    · rename_i hj
      obtain ⟨c1, c2, c3⟩ := hcount j v hv
      rw [moveNames_eq, hnone] at c2
      refine ⟨c1, c2.trans ?_, c3⟩
      simp only [not_or] at hj
      simp [Ne.symm hj.1, Ne.symm hj.2]
  · exact (show (s.startMove r x).policy = s.policy from hk.policy) ▸ hres
  · rw [hrun]
    exact htr i z (hk.transfer i ▸ hz)
  · rw [hrun, hhead]
    intro y' hy'
    cases hy'
    exact ⟨⟨_, _, bankRun_of_window hsw hsb, le_trans hsr (hfit _ _ hsw _ _ hsb).2.1⟩,
      ⟨_, _, bankRun_of_window hdw hdb, le_trans hdr (hfit _ _ hdw _ _ hdb).2.1⟩⟩
  · rw [hrun, State.startMove_retire]
    exact hret

/-- The end of a move writes the Move Engine, the pins and the damaged flag (R127). -/
theorem State.releaseHead_keeps (s : State) (r : MoveRequest) (dataError : Bool) :
    KeepsWork { s with move := ⟨s.move.queue.tail, .idle, 0, s.move.pattern⟩ }
      (s.releaseHead r dataError) := by
  unfold State.releaseHead
  split
  · have hk := keepsWork_release s ‹_› dataError
    exact ⟨hk.tamper, hk.alloc, hk.xm, rfl, hk.retireState, hk.endReport, hk.policy, hk.port⟩
  · exact .refl _

theorem State.releaseHead_retire (s : State) (r : MoveRequest) (dataError : Bool) :
    (s.releaseHead r dataError).retire = s.retire := by
  unfold State.releaseHead
  split
  · simp only [State.releasePin_retire]
    split
    · exact s.setDamaged_retire _
    · rfl
  · rfl

/-- The end of a move, before the quiet points of its windows, keeps all work accounted for (R127). -/
theorem WorkAccounted.released {r : MoveRequest} {dataError : Bool} (h : WorkAccounted s)
    (hr : s.move.queue.head? = some r) : WorkAccounted (s.releaseHead r dataError) := by
  obtain ⟨h1, h2, hm, hcount, hretire, hranges⟩ := h
  obtain ⟨hres, hfit, htr, hmove, hret⟩ := rangesHeld_iff.1 hranges
  have hk := s.releaseHead_keeps r dataError
  have hwin := s.window?_releaseHead r dataError
  have hmap : ∀ j, (s.releaseHead r dataError).window? j = if j ∈ r.releases then
      (s.window? j).map fun w => w.released (dataError && r.readsFrom j) else s.window? j := hwin
  have hrun : (s.releaseHead r dataError).bankRun = s.bankRun := funext fun k => funext fun n =>
    bankRun_of_map (f := fun j w => w.released (dataError && r.readsFrom j)) hmap
      (fun _ _ _ _ => by cases n <;> rfl) k n
  have hmem : ∀ r' ∈ s.move.queue.tail, r'.running = false := hm.2.1
  have hnone : headRanges (s.releaseHead r dataError).move.queue = none := by
    rw [hk.move]
    exact headRanges_eq_none fun r' hr' => hm.ranges_none (List.mem_of_mem_tail hr') (hmem r' hr')
  have hmoves : MovesCoherent { s with move := ⟨s.move.queue.tail, .idle, 0, s.move.pattern⟩ } := by
    refine ⟨⟨fun hne => absurd rfl hne, ?_⟩, fun r' hr' => hmem r' (List.mem_of_mem_tail hr'),
      fun e => (nomatch e), fun r' hr' => hm.2.2.2 r' (List.mem_of_mem_tail hr')⟩
    rintro ⟨r', rest, e, hrun⟩
    have hr' : r' ∈ s.move.queue.tail := by
      rw [show s.move.queue.tail = r' :: rest from e]
      exact List.mem_cons_self ..
    exact absurd ((hmem r' hr').symm.trans hrun) Bool.false_ne_true
  have hother : ∀ j, j ∉ r.releases → s.moveNames j = false := fun j hj => by
    rw [moveNames_eq, headRanges_of_head hr]
    rcases hx : r.resolved with _ | x
    · simp [MoveRequest.ranges, hx]
    · have hne : j ≠ x.srcWindow ∧ j ≠ x.dstWindow := by
        simp only [MoveRequest.releases, hx] at hj
        split at hj
        · rename_i e
          simp_all
        · simpa using hj
      simp [MoveRequest.ranges, hx, Ne.symm hne.1, Ne.symm hne.2]
  refine ⟨hk.phaseCoherent h1,
    hk.portsCoherent h2, hmoves.congr hk.move, fun j v hv => ?_,
    hretire.of_map (f := fun j w => w.released (dataError && r.readsFrom j)) hmap (fun _ _ => rfl)
      (s.releaseHead_retire r dataError),
    rangesHeld_iff.2 ⟨?_, hfit.of_map (f := fun j w => w.released (dataError && r.readsFrom j))
        (fun _ _ hw => hw.of_banks fun n => by cases n <;> rfl) hmap, fun i z hz => ?_, ?_, ?_⟩⟩
  · have htrans : (s.releaseHead r dataError).transfersOn j = s.transfersOn j :=
      transfersOn_congr (s := { s with move := _ }) hk.transfer j
    rw [htrans, moveNames_eq, hnone]
    rw [hmap j] at hv
    split at hv
    · obtain ⟨w, hw, rfl⟩ := Option.map_eq_some_iff.1 hv
      obtain ⟨c1, -, c3⟩ := hcount j w hw
      refine ⟨c1, rfl, fun hst => ?_⟩
      have := c3 hst
      simp only [Window.quiet, Bool.and_eq_true] at this
      simp [Window.quiet, Window.released, of_decide_eq_true this.1]
    · rename_i hj
      obtain ⟨c1, c2, c3⟩ := hcount j v hv
      exact ⟨c1, c2.trans (hother j hj), c3⟩
  · exact (show (s.releaseHead r dataError).policy = s.policy from hk.policy) ▸ hres
  · rw [hrun]
    exact htr i z (hk.transfer i ▸ hz)
  · rw [hnone]
    exact fun _ e => nomatch e
  · rw [hrun, State.releaseHead_retire]
    exact hret

end Sys2Proof.Machine
end

section
/-! SUPPORT. The work in flight stays accounted for under the events of the Retire Engine, the start of the
part and the opening of a window, and so under every step.
-/

namespace Sys2Proof.Machine

variable {s t : State}

/-! ### The Retire Engine -/

/-- The next page of the scrub is the next of its bank, or the first of bank 1 after the last of bank 0
(R89). -/
theorem nextScrub_eq_some {w : Window} {n m : BankNo} {page p : Nat}
    (h : w.nextScrub n page = some (m, p)) :
    ∃ b, w.bank? n = some b
      ∧ ((m = n ∧ p = page + 1 ∧ page + 1 < b.firstPage + b.pageCount)
        ∨ (n = .zero ∧ m = .one ∧ b.firstPage + b.pageCount ≤ page + 1
            ∧ ∃ b1, w.bank? .one = some b1 ∧ p = b1.firstPage)) := by
  unfold Window.nextScrub at h
  split at h
  · cases h
  · rename_i b hb
    refine ⟨b, hb, ?_⟩
    split at h
    · rename_i hp
      cases h
      exact .inl ⟨rfl, rfl, hp⟩
    · rename_i hp
      split at h
      · cases h
      · obtain ⟨b1, hb1, e⟩ := Option.map_eq_some_iff.1 h
        cases e
        exact .inr ⟨rfl, rfl, Nat.le_of_not_lt hp, b1, hb1, rfl⟩

theorem WorkAccounted.retireHeld (h : WorkAccounted s) : RetireHeld s.bankRun s.retire.state :=
  (rangesHeld_iff.1 h.2.2.2.2.2).2.2.2.2

theorem WorkAccounted.banksFit (h : WorkAccounted s) : s.EachWindow Window.BanksFit :=
  h.2.2.2.2.2.banksFit

/-- Every bank of a window has a page (R5, R103). -/
theorem WorkAccounted.run_pos (h : WorkAccounted s) {k : Nat} {n : BankNo} {f c : Nat}
    (hr : s.bankRun k n = some (f, c)) : f + c ≤ Config.pageTotal ∧ 1 ≤ c := by
  obtain ⟨w, b, hw, hb, rfl, rfl⟩ := bankRun_eq_some.1 hr
  obtain ⟨h1, -, h2⟩ := h.banksFit k w hw n b hb
  exact ⟨h1, h2⟩

/-- The next page of the scrub is a page of the window (R89). -/
theorem WorkAccounted.nextHeld {r : RetireRecord} {stage stage' : ScrubStage} {n : BankNo} {p : Nat}
    (h : WorkAccounted s) (hheld : RetireHeld s.bankRun (.scrubbing r stage))
    (hn : ((s.window? r.window).bind fun w => w.nextScrub r.bank r.page) = some (n, p)) :
    RetireHeld s.bankRun (.scrubbing { r with bank := n, page := p } stage') := by
  obtain ⟨f, c, hr, h1, h2⟩ := hheld
  obtain ⟨w, hw, hnext⟩ := Option.bind_eq_some_iff.1 hn
  obtain ⟨b, hb, h' | ⟨-, rfl, -, b1, hb1, rfl⟩⟩ := nextScrub_eq_some hnext
  · obtain ⟨rfl, rfl, hlt⟩ := h'
    cases (bankRun_of_window hw hb).symm.trans hr
    exact ⟨_, _, hr, by simp only; omega, hlt⟩
  · have hr1 := bankRun_of_window hw hb1
    have := (h.run_pos hr1).2
    exact ⟨_, _, hr1, le_refl _, by simp only; omega⟩

/-- The Retire Engine in another state on the same window, with pages and memory written. -/
theorem WorkAccounted.withRetireState {a : Allocator} {m : Memory} (h : WorkAccounted s)
    (x : RetireState) (ht : SameWork { s with alloc := a, xm := m, retire.state := x } t)
    (hsu : x.isStartUp = true → s.retire.state.isStartUp = true)
    (hclear : ∀ k swept, x.clearing = some (k, swept) →
      ∃ swept', s.retire.state.clearing = some (k, swept'))
    (hheld : RetireHeld s.bankRun x) : WorkAccounted t := by
  refine WorkAccounted.same ?_ ht
  obtain ⟨⟨p1, p2, p3, p4⟩, hports, hmoves, hcount, ⟨r1, r2, r3⟩, hranges⟩ := h
  obtain ⟨hres, hfit, htr, hmove, -⟩ := rangesHeld_iff.1 hranges
  refine ⟨⟨p1, p2, fun hx => p3 (hsu hx), p4⟩, hports, hmoves, hcount, ⟨r1, r2, fun k swept hk => ?_⟩,
    rangesHeld_iff.2 ⟨hres, hfit, htr, hmove, hheld⟩⟩
  obtain ⟨swept', hk'⟩ := hclear k swept hk
  exact r3 k swept' hk'

/-- The window that the engine clears is CLEARING and quiet, so that no transfer and no move names it
(R85, R87). -/
theorem WorkAccounted.clearing (h : WorkAccounted s) {k : Nat} {swept : Bool}
    (hk : s.retire.state.clearing = some (k, swept)) :
    ∃ w, s.window? k = some w ∧ w.state = .clearing ∧ s.transfersOn k = 0
      ∧ s.moveNames k = false := by
  obtain ⟨-, -, -, hcount, ⟨-, -, hclear⟩, -⟩ := h
  obtain ⟨w, hw, hst⟩ := hclear k swept hk
  obtain ⟨c1, c2, c3⟩ := hcount k w hw
  have hq := c3 (.inr hst)
  simp only [Window.quiet, Bool.and_eq_true, decide_eq_true_eq, Bool.not_eq_true'] at hq
  exact ⟨w, hw, hst, by omega, c2.symm.trans hq.2⟩

/-- The taking of a window keeps all work accounted for (R87). -/
theorem WorkAccounted.retireTaken {k : Nat} {rest : List Nat} {w : Window} {cause : RetireCause}
    (h : WorkAccounted s) (hs : s.retire.state = .idle) (hq : s.retire.queue = k :: rest)
    (hw : s.window? k = some w) :
    WorkAccounted { s.putWindow k { w with state := .clearing } with
      retire.queue := rest, retire.state := .sweeping (w.retireRecord k cause) } := by
  obtain ⟨hphase, hports, hmoves, hcount, ⟨r1, r2, -⟩, hranges⟩ := h
  obtain ⟨hres, hfit, htr, hmove, -⟩ := rangesHeld_iff.1 hranges
  rw [hq] at r1 r2
  have hput := fun j => s.window?_putWindow k j { w with state := .clearing }
  have hrun : (s.putWindow k { w with state := .clearing }).bankRun = s.bankRun :=
    funext fun j => funext fun n => bankRun_of_put hw hput (fun n => by cases n <;> rfl) j n
  have hqueued : w.state = .queued := by
    obtain ⟨v, hv, hst⟩ := r1 k (List.mem_cons_self ..)
    exact Option.some.inj (hw.symm.trans hv) ▸ hst
  refine ⟨hphase.congr (fun _ => rfl) (fun _ => rfl) rfl (by rw [hs]; rfl) rfl, hports, hmoves,
    fun j v hv => ?_, ⟨fun j hj => ?_, (List.nodup_cons.1 r2).2, fun j swept hj => ?_⟩,
    rangesHeld_iff.2 ⟨hres, State.EachWindow.of_put hfit
      (Window.BanksFit.of_banks (hfit _ _ hw) fun n => by cases n <;> rfl) hput, ?_, ?_, ?_⟩⟩
  · have hv' := (hput j).symm.trans hv
    split at hv'
    · rename_i e
      cases hv'
      subst e
      obtain ⟨c1, c2, c3⟩ := hcount k w hw
      exact ⟨c1, c2, fun _ => c3 (.inl hqueued)⟩
    · exact hcount j v hv'
  · obtain ⟨v, hv, hst⟩ := r1 j (List.mem_cons_of_mem _ hj)
    have hne : k ≠ j := fun e => (List.nodup_cons.1 r2).1 (e ▸ hj)
    exact ⟨v, (hput j).trans (by rw [if_neg hne, hv]), hst⟩
  · cases hj
    exact ⟨_, (hput k).trans (if_pos rfl), rfl⟩
  · intro i x hx
    change RunHolds ((s.putWindow k _).bankRun _ _) _ _
    rw [hrun]
    exact htr i x hx
  · change MoveHeld (s.putWindow k _).bankRun _
    rwa [hrun]
  · change RetireHeld (s.putWindow k _).bankRun _
    rw [hrun]
    exact ⟨rfl, _, bankRun_of_window (n := .zero) hw rfl⟩

/-- The freeing of a window keeps all work accounted for: nothing in flight names it (R90). -/
theorem WorkAccounted.freed {r : RetireRecord} (h : WorkAccounted s) (hs : s.retire.state = .freeing r) :
    WorkAccounted { s with
      dir.windows := Table.remove s.dir.windows r.window, retire.state := .idle } := by
  obtain ⟨w, hw, hst, hzero, hfalse⟩ := h.clearing (k := r.window) (swept := true) (by rw [hs]; rfl)
  obtain ⟨hphase, hports, hmoves, hcount, ⟨r1, r2, -⟩, hranges⟩ := h
  obtain ⟨hres, hfit, htr, hmove, -⟩ := rangesHeld_iff.1 hranges
  have hwin : ∀ j, Table.at? (Table.remove s.dir.windows r.window) j
      = if j = r.window then none else s.window? j := Table.at?_remove _ _
  have hold : ∀ j v, Table.at? (Table.remove s.dir.windows r.window) j = some v →
      s.window? j = some v := fun j v hv => by
    rw [hwin j] at hv
    split at hv
    · cases hv
    · exact hv
  have hrun : ∀ j n, j ≠ r.window → State.bankRun { s with
      dir.windows := Table.remove s.dir.windows r.window, retire.state := .idle } j n = s.bankRun j n :=
    fun j n hj => by
      rw [bankRun_eq, bankRun_eq]
      exact congrArg (Option.bind · _) ((hwin j).trans (if_neg hj))
  refine ⟨hphase.congr (fun _ => rfl) (fun _ => rfl) rfl (by rw [hs]; rfl) rfl, hports, hmoves,
    fun j v hv => hcount j v (hold j v hv), ⟨fun j hj => ?_, r2, fun j swept hj => (nomatch hj)⟩,
    rangesHeld_iff.2 ⟨hres, fun j v hv => hfit j v (hold j v hv), fun i x hx => ?_, fun y hy => ?_,
      trivial⟩⟩
  · obtain ⟨v, hv, hq⟩ := r1 j hj
    have hne : j ≠ r.window := by
      rintro rfl
      obtain rfl := Option.some.inj (hw.symm.trans hv)
      simp [hst] at hq
    exact ⟨v, ((hwin j).trans (if_neg hne)).trans hv, hq⟩
  · rw [hrun _ _ (transfer_window_ne hzero hx)]
    exact htr i x hx
  · rw [moveNames_eq, show headRanges s.move.queue = some y from hy] at hfalse
    simp only [Option.any_some, Bool.or_eq_false_iff, decide_eq_false_iff_not] at hfalse
    rw [hrun _ _ hfalse.1, hrun _ _ hfalse.2]
    exact hmove y hy

/-! ### The start of the part -/

theorem workAccounted_reset : WorkAccounted State.reset := by
  refine ⟨⟨fun i => ?_, fun _ i => ?_, fun _ => ⟨rfl, rfl⟩, fun e => (nomatch e)⟩, fun i => ?_,
    ⟨⟨fun h => absurd rfl h, fun ⟨_, _, e, _⟩ => (nomatch e)⟩, fun r hr => (nomatch hr),
      fun e => (nomatch e), fun r hr => (nomatch hr)⟩, fun k w hw => (nomatch hw),
    ⟨fun k hk => (nomatch hk), List.nodup_nil, fun k swept hk => (nomatch hk)⟩,
    rangesHeld_iff.2 ⟨by simp [ReservesAllowed, State.reset, Policy.reset], fun k w hw => (nomatch hw),
      fun i x hx => ?_, fun y hy => (nomatch hy), by simp [RetireHeld, State.reset, Config.pageTotal]⟩⟩
  · cases i <;> decide
  · cases i <;> rfl
  · cases i <;> decide
  · cases i <;> cases hx

theorem WorkAccounted.startupLast {page : Nat} {stage : ScrubStage} {a : Allocator} (h : WorkAccounted s)
    (hs : s.retire.state = .startUp page stage) :
    WorkAccounted { s with alloc := a, retire.state := .idle, retire.endReport := true } := by
  obtain ⟨⟨p1, p2, p3, -⟩, hports, hmoves, hcount, ⟨r1, r2, -⟩, hranges⟩ := h
  obtain ⟨hres, hfit, htr, hmove, -⟩ := rangesHeld_iff.1 hranges
  exact ⟨⟨p1, p2, fun e => (nomatch e), fun _ => (p3 (by rw [hs]; rfl)).1⟩, hports, hmoves, hcount,
    ⟨r1, r2, fun k swept hk => (nomatch hk)⟩, rangesHeld_iff.2 ⟨hres, hfit, htr, hmove, trivial⟩⟩

theorem WorkAccounted.scrubEnded (h : WorkAccounted s) (he : s.retire.endReport = true) :
    WorkAccounted { s with
      policy.phase := .configuring, retire.endReport := false, ports := s.ports.allIdle } := by
  obtain ⟨⟨p1, p2, p3, p4⟩, hports, hmoves, hcount, hretire, hranges⟩ := h
  have hnone : ∀ i, (s.ports.get i).transfer = none := p2 (p4 he)
  have hcomp : ∀ i, (s.ports.get i).completion = none := fun i => by
    by_contra hc
    have := (hports i).2 (Option.ne_none_iff_isSome.1 hc)
    rw [State.port, hnone i] at this
    cases this
  have htr : ∀ i, (s.ports.allIdle.get i).transfer = (s.port i).transfer := fun i => by
    rw [Ports.get_allIdle]
    rfl
  refine ⟨⟨fun i => ⟨fun e => ?_, fun e => (nomatch e)⟩, fun e => (nomatch e),
      fun e => absurd ((p3 e).2.symm.trans he) Bool.false_ne_true, fun e => (nomatch e)⟩, fun i => ?_,
    hmoves, hcount.congr (fun _ => rfl) htr rfl, hretire,
    hranges.congr rfl rfl hranges.banksFit (fun _ _ => rfl) htr rfl rfl⟩
  · have : (s.ports.allIdle.get i).state = .notReady := e
    rw [Ports.get_allIdle] at this
    cases this
  · simp only [State.port, Ports.get_allIdle, hnone i, hcomp i]
    simp

/-! ### A window opened -/

/-- A place found is a run of free pages inside the bounds (R107). -/
theorem firstFit_eq_some {free : Nat → Bool} {lo hi c f : Nat} (h : firstFit free lo hi c = some f) :
    lo ≤ f ∧ f + c ≤ hi ∧ ∀ i < c, free (f + i) = true := by
  unfold firstFit at h
  have hall := List.find?_some h
  obtain ⟨j, hj, rfl⟩ := List.mem_map.1 (List.mem_of_find?_eq_some h)
  rw [List.mem_range] at hj
  refine ⟨by omega, by omega, fun i hi => ?_⟩
  exact List.all_eq_true.1 hall i (List.mem_range.2 hi)

theorem searchPools_eq_some {free : Nat → Bool} {pools : List (Nat × Nat)} {c f : Nat}
    (h : searchPools free pools c = some f) :
    ∃ pool ∈ pools, pool.1 ≤ f ∧ f + c ≤ pool.2 ∧ ∀ i < c, free (f + i) = true := by
  obtain ⟨pool, hp, hf⟩ := List.exists_of_findSome?_eq_some h
  exact ⟨pool, hp, firstFit_eq_some hf⟩

/-- The pools lie in exchange memory (R105). -/
theorem pools_le {x : Policy} (hx : ReservesAllowed x) (h : Holder) {pool : Nat × Nat}
    (hp : pool ∈ x.pools h) : pool.2 ≤ Config.pageTotal := by
  have hn : x.nReserve ≤ 512 := by
    have := hx.1
    simp only [List.mem_cons, List.not_mem_nil, or_false] at this
    omega
  cases h <;> simp only [Policy.pools, List.mem_cons, List.not_mem_nil, or_false] at hp <;>
    rcases hp with rfl | rfl <;> simp only [Config.pageTotal] <;> omega

/-- The place of a new window: runs of free pages of exchange memory, the second beside the first
(R103, R106 to R108). -/
theorem place_eq_some {h : Holder} {c0 : Nat} {c1 : Option Nat} {f0 : Nat} {f1 : Option Nat}
    (hx : ReservesAllowed s.policy) (hp : s.place h c0 c1 = some (f0, f1)) :
    (f0 + c0 ≤ Config.pageTotal ∧ ∀ i < c0, s.pageFree (f0 + i) = true)
      ∧ ∀ f c, f1 = some f → c1 = some c → f + c ≤ Config.pageTotal
          ∧ ∀ i < c, s.pageFree (f + i) = true ∧ ¬(f0 ≤ f + i ∧ f + i < f0 + c0) := by
  unfold State.place at hp
  split at hp
  · cases hp
  · rename_i g hg
    obtain ⟨pool, hpool, -, hle, hfree⟩ := searchPools_eq_some hg
    have hle' := le_trans hle (pools_le hx h hpool)
    split at hp
    · cases hp
      exact ⟨⟨hle', hfree⟩, fun f c hf => nomatch hf⟩
    · rename_i c1
      obtain ⟨g1, hg1, e⟩ := Option.map_eq_some_iff.1 hp
      cases e
      refine ⟨⟨hle', hfree⟩, fun f c hf hc => ?_⟩
      cases hf
      cases hc
      obtain ⟨pool1, hpool1, -, hle1, hfree1⟩ := searchPools_eq_some hg1
      refine ⟨le_trans hle1 (pools_le hx h hpool1), fun i hi => ?_⟩
      have := hfree1 i hi
      simp only [Bool.and_eq_true, Bool.not_eq_true', Bool.and_eq_false_iff,
        decide_eq_false_iff_not] at this
      exact ⟨this.1, fun hb => this.2.elim (fun h => h hb.1) fun h => h hb.2⟩

/-- The pages of a length in range hold it, and there is at least one (R5, R13). -/
theorem pagesOf_bounds {length unit : Nat} (h : lengthInRange length unit = true) :
    length ≤ pagesOf length * 256 ∧ 1 ≤ pagesOf length := by
  simp only [lengthInRange, Bool.and_eq_true, decide_eq_true_eq] at h
  unfold pagesOf
  omega

theorem freeWindow_eq_some {k : Nat} (h : s.freeWindow = some k) : s.window? k = none := by
  have := List.find?_some h
  simpa using this

/-- The bank 1 of a new window is the place found for the length asked (R16, R108). -/
theorem OpenTicket.bank1_eq_some {x : OpenTicket} {b : Bank} (h : x.window.bank1 = some b) :
    ∃ n f, x.request.length1 = some n ∧ x.first1 = some f ∧ b = ⟨f, pagesOf n, n⟩ := by
  obtain ⟨n, hn, h'⟩ := Option.bind_eq_some_iff.1 (show x.request.length1.bind _ = some b from h)
  obtain ⟨f, hf, e⟩ := Option.map_eq_some_iff.1 h'
  exact ⟨n, f, hn, hf, e.symm⟩

/-- The banks of a new window lie in exchange memory, their limits inside them (R103). -/
theorem opened_banksFit {i : PortId} {a : OpenParams} {x : OpenTicket}
    (h : checkOpenWindow i a s = .ok x) (hx : ReservesAllowed s.policy) : x.window.BanksFit := by
  obtain ⟨-, hr, -, -, hp⟩ := checkOpenWindow_ok h
  obtain ⟨hl0, hl1, -⟩ := parseOpen_ok hr
  obtain ⟨⟨hp0, -⟩, hp1⟩ := place_eq_some hx hp
  intro n b hb
  cases n
  · cases hb
    exact ⟨hp0, (pagesOf_bounds hl0).1, (pagesOf_bounds hl0).2⟩
  · obtain ⟨n, f, hn, hf, rfl⟩ := OpenTicket.bank1_eq_some hb
    have hb1 := pagesOf_bounds (hl1 n hn)
    exact ⟨(hp1 f _ hf (by rw [hn]; rfl)).1, hb1.1, hb1.2⟩

theorem WorkAccounted.reservesAllowed (h : WorkAccounted s) : ReservesAllowed s.policy :=
  (rangesHeld_iff.1 h.2.2.2.2.2).1

/-- What held of a window that is not FREE holds of it after another is opened. -/
theorem opened_keeps_state {x : OpenTicket} {j : Nat} {p : Window → Prop}
    (hwin : ∀ j, t.window? j = if x.index = j then some x.window else s.window? j)
    (hfree : s.window? x.index = none) (h : ∃ w, s.window? j = some w ∧ p w) :
    ∃ w, t.window? j = some w ∧ p w := by
  obtain ⟨w, hw, hp⟩ := h
  have hne : x.index ≠ j := by
    rintro rfl
    cases hfree.symm.trans hw
  exact ⟨w, by rw [hwin j, if_neg hne, hw], hp⟩

/-- The opening of a window keeps all work accounted for (R16, R103). -/
theorem WorkAccounted.opened {i : PortId} {a : OpenParams} {x : OpenTicket} (h : WorkAccounted s)
    (hx : checkOpenWindow i a s = .ok x) : WorkAccounted (s.openWindow x) := by
  have hfitx := opened_banksFit hx h.reservesAllowed
  obtain ⟨-, -, -, hk, -⟩ := checkOpenWindow_ok hx
  have hfree := freeWindow_eq_some hk
  obtain ⟨hphase, hports, hmoves, hcount, hretire, hranges⟩ := h
  obtain ⟨hres, hfit, htr, hmove, hret⟩ := rangesHeld_iff.1 hranges
  have hwin := s.window?_openWindow x
  have hne : ∀ {k n v}, s.bankRun k n = some v → x.index ≠ k := by
    rintro k n v hv rfl
    obtain ⟨w, hw⟩ := window?_of_bankRun hv
    cases hfree.symm.trans hw
  have hrun : ∀ k n v, s.bankRun k n = some v → (s.openWindow x).bankRun k n = some v :=
    fun k n v hv => by
      rw [bankRun_eq, hwin k, if_neg (hne hv), ← bankRun_eq]
      exact hv
  refine ⟨hphase, hports, hmoves, fun j v hv => ?_, ⟨fun j hj => ?_, hretire.2.1, fun j swept hj => ?_⟩,
    rangesHeld_iff.2 ⟨hres, hfit.of_put hfitx hwin, fun i z hz => (htr i z hz).mono (hrun _ _), ?_, ?_⟩⟩
  · rw [hwin j] at hv
    split at hv
    · rename_i e
      cases hv
      subst e
      refine ⟨?_, ?_, by simp [OpenTicket.window]⟩
      · refine (transfersOn_eq_zero (s := s) fun i z hz e => ?_).symm
        obtain ⟨f, c, hr, -⟩ := htr i z hz
        exact hne hr e.symm
      · change false = s.moveNames x.index
        rw [moveNames_eq]
        rcases hy : headRanges s.move.queue with _ | y
        · rfl
        · obtain ⟨⟨_, _, h1, -⟩, ⟨_, _, h2, -⟩⟩ := hmove y hy
          simp [Ne.symm (hne h1), Ne.symm (hne h2)]
    · exact hcount j v hv
  · exact opened_keeps_state hwin hfree (hretire.1 j hj)
  · exact opened_keeps_state hwin hfree (hretire.2.2 j swept hj)
  · exact fun y hy => ⟨(hmove y hy).1.mono (hrun _ _), (hmove y hy).2.mono (hrun _ _)⟩
  · exact hret.mono hrun

/-! ### Every step -/

/-- Whatever a command or an event does keeps all work accounted for. -/
theorem WorkAccounted.effect (h : WorkAccounted s) (he : Effect s t) : WorkAccounted t := by
  cases he with
  | leads hl => exact h.leads hl
  | latched hl _ => exact WorkAccounted.leads (s := { s with dir.tamper := true }) h hl
  | unlatched ht => exact WorkAccounted.same (s := { s with dir.tamper := false }) h ht
  | reserved n p hn hp ht => exact (h.reserved hn hp).same ht
  | locked i hi ht => exact (h.locked hi).same ht
  | opened i a x hx ht => exact (h.opened hx).same ht
  | admitted i x w b hi hw hl _ hb hr ht => exact (h.admitted hi hw hl hb hr).same ht
  | waits i hi ht => exact (h.waits hi).same ht
  | granted i x c m hx _ ht => exact (h.granted hx).same ht
  | completed i x c last hx ht => exact ((h.lowered hx).settleAll _).leads ht
  | moveTaken r hs hr => exact h.moveTaken hs hr
  | moveStarted r x hs hr hx => exact h.moveStarted hs hr hx
  | moveAdvanced r n x c p m hs hr hn hx _ ht => exact (h.moveAdvanced hs hr hn hx).same ht
  | moveEnded r dataError _ hr ht => exact ((h.released hr).settleAll _).same ht
  | retireTaken k rest w cause hs hq hw _ => exact h.retireTaken hs hq hw
  | swept r root damaged hs ht =>
    have hheld := h.retireHeld
    rw [hs] at hheld
    obtain ⟨hb, c, hr⟩ := hheld
    have hc := (h.run_pos hr).2
    refine h.withRetireState (.scrubbing { r with rootSelector := root, damaged := damaged } .requested)
      ht (by simp [RetireState.isStartUp]) (fun k sw hk => ⟨false, ?_⟩)
      ⟨r.page, c, by rw [hb]; exact hr, le_refl _, by simp only; omega⟩
    cases hk
    rw [hs]
    rfl
  | pageScrubbed r hs ht =>
    have hheld := h.retireHeld
    rw [hs] at hheld
    refine h.withRetireState (.scrubbing r .scrubbed) ht (by simp [RetireState.isStartUp])
      (fun k sw hk => ⟨true, ?_⟩) hheld
    cases hk
    rw [hs]
    rfl
  | pageNext r n p hs hn ht =>
    have hheld := h.retireHeld
    rw [hs] at hheld
    refine h.withRetireState (.scrubbing { r with bank := n, page := p } .requested) ht
      (by simp [RetireState.isStartUp]) (fun k sw hk => ⟨true, ?_⟩) (h.nextHeld hheld hn)
    cases hk
    rw [hs]
    rfl
  | pageLast r hs _ ht =>
    refine h.withRetireState (.freeing r) ht (by simp [RetireState.isStartUp])
      (fun k sw hk => ⟨true, ?_⟩) trivial
    cases hk
    rw [hs]
    rfl
  | freed r hs ht => exact (h.freed hs).same ht
  | deviceReset => exact workAccounted_reset
  | startupScrubbed page stage hs ht =>
    have hheld := h.retireHeld
    rw [hs] at hheld
    exact h.withRetireState (.startUp page .scrubbed) ht (by rw [hs]; exact id) (fun k sw hk => nomatch hk)
      hheld
  | startupNext page hs hp ht =>
    exact h.withRetireState (.startUp (page + 1) .requested) ht (by rw [hs]; exact id)
      (fun k sw hk => nomatch hk) hp
  | startupLast page hs ht => exact (h.startupLast hs).same ht
  | scrubEnded he => exact h.scrubEnded he

end Sys2Proof.Machine
end

section
/-! SUPPORT. The page map agrees with the bank records under every step, and a FREE page was last written by
a scrub of itself (R102 to R104, R170).
-/

namespace Sys2Proof.Machine

variable {s t : State}

/-! ### A page last written by a scrub -/

/-- A bit turned over in a rising set: it is there where it was not, and every other is as it was. -/
theorem mem_toggleBit_iff {b c : Nat} {l : List Nat} (h : l.Pairwise (· < ·)) :
    c ∈ toggleBit b l ↔ if c = b then c ∉ l else c ∈ l := by
  induction l with
  | nil => simp [toggleBit]
  | cons d l ih =>
    obtain ⟨hd, hl⟩ := List.pairwise_cons.1 h
    simp only [toggleBit]
    split
    · rename_i hb
      have hnot : b ∉ d :: l := fun hm => by
        rcases List.mem_cons.1 hm with rfl | hm
        · omega
        · have := hd b hm
          omega
      by_cases hc : c = b
      · subst hc
        simpa using hnot
      · simp [hc]
    · split
      · rename_i hb
        subst hb
        have hnot : b ∉ l := fun hm => Nat.lt_irrefl _ (hd b hm)
        by_cases hc : c = b
        · subst hc
          simpa using hnot
        · simp [hc]
      · rename_i hlt hb
        rw [List.mem_cons, ih hl]
        by_cases hc : c = b
        · subst hc
          simp [hb]
        · simp [hc]

theorem flipByte_getLsbD (x : Byte) {i j : Nat} (hi : i < 8) :
    (flipByte x j).getLsbD i = (x.getLsbD i != decide (i = j)) := by
  simp only [flipByte, BitVec.getLsbD_xor, BitVec.getLsbD_shiftLeft, BitVec.getLsbD_one]
  by_cases h : i = j
  · subst h
    simp [hi]
  · have : decide (i < j) = true ∨ i - j ≠ 0 := by
      rcases Nat.lt_or_gt_of_ne h with h | h
      · exact .inl (decide_eq_true h)
      · exact .inr (by omega)
    rcases this with h' | h' <;> simp [h, h', hi]

theorem Memory.byte_disturbBit (m : Memory) (f : BitFlip) (a : Nat) :
    (m.disturbBit f).byte a
      = if f.word < Config.wordTotal ∧ f.bit < 64 ∧ a = 8 * f.word + f.bit / 8 then
          flipByte (m.byte a) (f.bit % 8)
        else m.byte a := by
  unfold Memory.disturbBit
  by_cases hw : f.word < Config.wordTotal
  · by_cases hb : f.bit < 64
    · by_cases ha : a = 8 * f.word + f.bit / 8
      · simp [hw, hb, ha, Memory.byte]
      · simp [hw, hb, ha, Memory.byte, Table.value_store]
    · simp [hw, hb, Memory.byte]
  · simp [hw]

theorem Memory.disturbed_disturbBit (m : Memory) (f : BitFlip) (k : Nat) :
    (m.disturbBit f).disturbed k
      = if f.word < Config.wordTotal ∧ k = f.word then toggleBit f.bit (m.disturbed k)
        else m.disturbed k := by
  unfold Memory.disturbBit
  by_cases hw : f.word < Config.wordTotal
  · by_cases hk : k = f.word
    · simp [hw, hk, Memory.disturbed]
    · simp [hw, hk, Memory.disturbed, Table.value_store]
  · simp [hw]

/-- A stored bit turned over is turned over in the word's disturbed bits as well (R104). -/
theorem Memory.writtenZero_disturbBit {m : Memory} {page : Nat} (f : BitFlip) (hm : m.wf = true)
    (h : m.writtenZero page) : (m.disturbBit f).writtenZero page := by
  intro a j ha hj
  have hold := h a j ha hj
  rw [Memory.byte_disturbBit, Memory.disturbed_disturbBit]
  by_cases hw : f.word < Config.wordTotal ∧ a / 8 = f.word
  · rw [if_pos hw]
    have hmem := mem_toggleBit_iff (b := f.bit) (c := 8 * (a % 8) + j)
      (Memory.disturbed_rising hm (a / 8))
    by_cases hb : 8 * (a % 8) + j = f.bit
    · have hat : f.word < Config.wordTotal ∧ f.bit < 64 ∧ a = 8 * f.word + f.bit / 8 :=
        ⟨hw.1, by omega, by omega⟩
      have hjb : j = f.bit % 8 := by omega
      rw [if_pos hat, flipByte_getLsbD _ hj, hold, decide_eq_true hjb]
      rw [if_pos hb] at hmem
      by_cases hin : 8 * (a % 8) + j ∈ m.disturbed (a / 8) <;> simp [hmem, hin]
    · rw [if_neg hb] at hmem
      simp only [hmem, ← hold]
      split
      · rename_i hat
        have hjb : j ≠ f.bit % 8 := by omega
        rw [flipByte_getLsbD _ hj, decide_eq_false hjb, Bool.bne_false]
      · rfl
  · rw [if_neg hw, if_neg (by rintro ⟨h1, h2, h3⟩; exact hw ⟨h1, by omega⟩)]
    exact hold

theorem Memory.writtenZero_disturb {m : Memory} {page : Nat} (flips : List BitFlip) (hm : m.wf = true)
    (h : m.writtenZero page) : (m.disturb flips).writtenZero page := by
  unfold Memory.disturb
  induction flips generalizing m with
  | nil => exact h
  | cons f flips ih =>
    exact ih (Memory.disturbBit_wf f hm) (Memory.writtenZero_disturbBit f hm h)

/-- A page whose bytes and disturbed bits are as they were is as it was. -/
theorem Memory.writtenZero_congr {m m' : Memory} {page : Nat} (h : m.writtenZero page)
    (hb : ∀ a, a / 256 = page → m'.byte a = m.byte a)
    (hd : ∀ a, a / 256 = page → m'.disturbed (a / 8) = m.disturbed (a / 8)) :
    m'.writtenZero page := fun a j ha hj => by
  rw [hb a ha, hd a ha]
  exact h a j ha hj

theorem Memory.writtenZero_writeRange {m : Memory} {page a : Nat} {data : List Byte}
    (h : m.writtenZero page) (hout : ∀ x, x / 256 = page → x / 8 ∉ touchedWords a data.length) :
    (m.writeRange a data).writtenZero page :=
  Memory.writtenZero_congr h
    (fun x hx => by rw [Memory.byte_writeRange, if_neg (hout x hx)])
    (fun x hx => by rw [Memory.disturbed_writeRange, if_neg (hout x hx)])

/-- A page just scrubbed holds zeros, and every other page is as it was (R89, R104). -/
theorem Memory.writtenZero_scrubPage {m : Memory} {p page : Nat} (h : p = page ∨ m.writtenZero p) :
    (m.scrubPage page).writtenZero p := by
  by_cases hp : p = page
  · subst hp
    intro a j ha hj
    have hd : a / 8 / 32 = p := by omega
    rw [Memory.byte_scrubPage, Memory.disturbed_scrubPage, if_pos ha, if_pos hd]
    simp
  · refine Memory.writtenZero_congr (h.resolve_left hp) (fun a ha => ?_) fun a ha => ?_
    · rw [Memory.byte_scrubPage, if_neg (by omega)]
    · rw [Memory.disturbed_scrubPage, if_neg (by omega)]

/-! ### The page map and the runs of pages -/

/-- A page lies in a run. -/
def InRun (run : Option (Nat × Nat)) (p : Nat) : Prop := ∃ f c, run = some (f, c) ∧ f ≤ p ∧ p < f + c

/-- The page map holds each page for the one bank whose run it is in and whose scrub has not taken it. -/
def PagesMatch (page : Nat → PageState) (run : Nat → BankNo → Option (Nat × Nat))
    (held : Nat → BankNo → Nat → Prop) : Prop :=
  ∀ p k n, page p = .allocated k n ↔ InRun (run k n) p ∧ held k n p

theorem pagesHeld_iff : PagesHeld s ↔ PagesMatch s.page s.bankRun s.stillHeld
      ∧ (∀ p, s.page p = .free → s.xm.writtenZero p)
      ∧ (∀ r stage, s.retire.state = .scrubbing r stage →
          s.page r.page = .scrubbing ∧ (stage = .scrubbed → s.xm.writtenZero r.page))
      ∧ ∀ page stage, s.retire.state = .startUp page stage →
          (∀ p, page ≤ p → s.page p = .scrubbing) ∧ (stage = .scrubbed → s.xm.writtenZero page) := by
  have h : ∀ p k n, (∃ w b, s.window? k = some w ∧ w.bank? n = some b
        ∧ b.firstPage ≤ p ∧ p < b.firstPage + b.pageCount ∧ s.stillHeld k n p)
      ↔ InRun (s.bankRun k n) p ∧ s.stillHeld k n p := by
    intro p k n
    constructor
    · rintro ⟨w, b, hw, hb, h1, h2, h3⟩
      exact ⟨⟨_, _, bankRun_of_window hw hb, h1, h2⟩, h3⟩
    · rintro ⟨⟨f, c, hr, h1, h2⟩, h3⟩
      obtain ⟨w, b, hw, hb, rfl, rfl⟩ := bankRun_eq_some.1 hr
      exact ⟨w, b, hw, hb, h1, h2, h3⟩
  simp only [PagesHeld, PagesMatch, h]

theorem stillHeld_congr (h : t.retire.state = s.retire.state) : t.stillHeld = s.stillHeld := by
  funext k n p
  simp only [State.stillHeld, h]

theorem stillHeld_scrubbing {r : RetireRecord} {stage : ScrubStage}
    (h : s.retire.state = .scrubbing r stage) (k : Nat) (n : BankNo) (p : Nat) :
    s.stillHeld k n p ↔ (r.window = k → (n = r.bank ∧ r.page < p) ∨ (r.bank = .zero ∧ n = .one)) := by
  simp only [State.stillHeld, h]

theorem stillHeld_freeing {r : RetireRecord} (h : s.retire.state = .freeing r) (k : Nat) (n : BankNo)
    (p : Nat) : s.stillHeld k n p ↔ r.window ≠ k := by
  simp only [State.stillHeld, h]

/-- Before its scrub a window holds all its pages, as every other window does (R89). -/
theorem stillHeld_of_not_clearing {k : Nat}
    (h : ∀ swept, s.retire.state.clearing ≠ some (k, swept)) (n : BankNo) (p : Nat) :
    s.stillHeld k n p := by
  unfold State.stillHeld
  rcases hs : s.retire.state with ⟨page, stage⟩ | _ | r | ⟨r, stage⟩ | r
  · trivial
  · trivial
  · trivial
  · intro e
    exact absurd (by rw [hs]; exact e ▸ rfl) (h true)
  · intro e
    exact absurd (by rw [hs]; exact e ▸ rfl) (h true)

/-- States that agree on the page map, the runs and the Retire Engine hold the same pages, where memory
keeps each page that is in no bank as a scrub left it. -/
theorem PagesHeld.congr (h : PagesHeld s) (hp : ∀ p, t.page p = s.page p)
    (hrun : ∀ k n, t.bankRun k n = s.bankRun k n) (hs : t.retire.state = s.retire.state)
    (hz : ∀ p, (∀ k n, s.page p ≠ .allocated k n) → s.xm.writtenZero p → t.xm.writtenZero p) :
    PagesHeld t := by
  have hp' : t.page = s.page := funext hp
  have hrun' : t.bankRun = s.bankRun := funext fun k => funext (hrun k)
  obtain ⟨h1, h2, h3, h4⟩ := pagesHeld_iff.1 h
  rw [pagesHeld_iff, hp', hrun', stillHeld_congr hs, hs]
  refine ⟨h1, fun p hf => hz p (by simp [hf]) (h2 p hf), fun r stage e => ?_, fun page stage e => ?_⟩
  · obtain ⟨g1, g2⟩ := h3 r stage e
    exact ⟨g1, fun e' => hz _ (by simp [g1]) (g2 e')⟩
  · obtain ⟨g1, g2⟩ := h4 page stage e
    exact ⟨g1, fun e' => hz _ (by simp [g1 page (le_refl _)]) (g2 e')⟩

theorem PagesHeld.same (h : PagesHeld s) (hst : SameWork s t) : PagesHeld t :=
  h.congr hst.page (bankRun_congr hst.window) (by rw [hst.retire]) fun p _ hz => hst.xm ▸ hz

theorem PagesHeld.leads (h : PagesHeld s) (hl : s.Leads t) : PagesHeld t := by
  refine hl.keeps (P := PagesHeld) (fun s t hact h => ?_) h
  cases hact with
  | same hst => exact h.same hst
  | window hw hc =>
    exact h.congr (fun _ => rfl) (bankRun_of_put hw (s.window?_putQueued _ · _ _) hc.run) rfl
      fun _ _ hz => hz
  | pruned => exact h
  | joined => exact h

/-- An operation on windows that keeps their runs keeps the pages. -/
theorem PagesHeld.keeps (h : PagesHeld s) (hk : KeepsWork s t)
    (hrun : ∀ k n, t.bankRun k n = s.bankRun k n) : PagesHeld t :=
  h.congr (fun p => by simp only [State.page, hk.alloc]) hrun hk.retireState fun p _ hz => hk.xm ▸ hz

theorem PagesHeld.settleAll (h : PagesHeld s) (ks : List Nat) : PagesHeld (s.settleAll ks) :=
  h.keeps (keepsWork_settleAll ks s) (bankRun_of_map (c := (· ∈ ks)) (f := fun _ w => w.settled)
    (State.window?_settleAll ks s) fun _ w n _ => w.settled_run n)

/-! ### Memory written inside a bank -/

theorem rangeAddress?_eq_some {k : Nat} {n : BankNo} {offset count a : Nat}
    (h : s.rangeAddress? k n offset count = some a) :
    ∃ f c, s.bankRun k n = some (f, c) ∧ a = f * 256 + offset := by
  unfold State.rangeAddress? at h
  split at h
  · cases h
  · rename_i b hb
    obtain ⟨w, hw, hb'⟩ := Option.bind_eq_some_iff.1 hb
    refine ⟨_, _, bankRun_of_window hw hb', ?_⟩
    simp only at h
    split at h
    · cases h
      rfl
    · cases h

/-- What a grant stores lies in a bank whose window is not being cleared, so that a page that is in no bank
stays as a scrub left it (R51, R103, R104). -/
theorem PagesHeld.stored {m : Memory} {k : Nat} {n : BankNo} {offset count : Nat} (h : PagesHeld s)
    (hm : MemoryCanonical s) (hk : ∀ swept, s.retire.state.clearing ≠ some (k, swept))
    (hr : RunHolds (s.bankRun k n) offset count) (hst : s.Stored m k n offset count) (p : Nat)
    (hp : ∀ k n, s.page p ≠ .allocated k n) (hz : s.xm.writtenZero p) : m.writtenZero p := by
  obtain ⟨flips, rfl | ⟨a, data, rfl, ha, rfl⟩⟩ := hst
  · exact Memory.writtenZero_disturb flips hm hz
  · obtain ⟨f, c, hrun, hle⟩ := hr
    obtain ⟨f', c', hrun', rfl⟩ := rangeAddress?_eq_some ha
    cases hrun.symm.trans hrun'
    refine Memory.writtenZero_writeRange (Memory.writtenZero_disturb flips hm hz) fun x hx ht => ?_
    obtain ⟨hne, h1, h2⟩ := mem_touchedWords.1 ht
    exact hp k n (((pagesHeld_iff.1 h).1 p k n).2
      ⟨⟨f, c, hrun, by omega, by omega⟩, stillHeld_of_not_clearing hk n p⟩)

theorem WorkAccounted.transferHeld (h : WorkAccounted s) {i : PortId} {x : Transfer}
    (hx : (s.port i).transfer = some x) :
    RunHolds (s.bankRun x.window x.bank) x.offset x.count
      ∧ ∀ swept, s.retire.state.clearing ≠ some (x.window, swept) := by
  refine ⟨(rangesHeld_iff.1 h.2.2.2.2.2).2.2.1 i x hx, fun swept e => ?_⟩
  obtain ⟨_, -, -, hzero, -⟩ := h.clearing e
  exact transfer_window_ne hzero hx rfl

/-- The next chunk of a move lies in its range (R123). -/
theorem MoveRequest.chunk_le (r : MoveRequest) (h : r.progress ≤ r.count) :
    r.chunkStart + r.chunkLength ≤ r.count := by
  unfold MoveRequest.chunkStart
  have hl : r.chunkLength ≤ r.count - r.progress := Nat.min_le_right ..
  split <;> omega

theorem WorkAccounted.chunkHeld (h : WorkAccounted s) {r : MoveRequest} {x : Resolved}
    (hr : s.move.queue.head? = some r) (hx : r.resolved = some x) :
    RunHolds (s.bankRun x.dstWindow x.dstBank) (r.dstOffset + r.chunkStart) r.chunkLength
      ∧ ∀ swept, s.retire.state.clearing ≠ some (x.dstWindow, swept) := by
  have hy := headRanges_eq_some.2 ⟨r, x, hr, hx, rfl⟩
  obtain ⟨-, f, c, hrun, hle⟩ := (rangesHeld_iff.1 h.2.2.2.2.2).2.2.2.1 _ hy
  have hc := r.chunk_le (h.2.2.1.2.2.2 r (List.mem_of_head? hr)).2.1
  refine ⟨⟨f, c, hrun, by simp only at hle; omega⟩, fun swept e => ?_⟩
  obtain ⟨_, -, -, -, hn⟩ := h.clearing e
  rw [moveNames_eq, hy] at hn
  simp at hn

end Sys2Proof.Machine
end

section
/-! SUPPORT. The page map under the events of the Retire Engine, the start of the part and the opening of a
window, and so under every step (R89, R90, R102 to R104, R108, R170).
-/

namespace Sys2Proof.Machine

variable {s t : State}

/-! ### The scrub of a window -/

section Match

variable {page page' : Nat → PageState} {run run' : Nat → BankNo → Option (Nat × Nat)}
  {held held' : Nat → BankNo → Nat → Prop}

/-- Page maps that allocate alike match runs that hold alike. -/
theorem PagesMatch.congr (h : PagesMatch page run held)
    (hp : ∀ q k n, page' q = .allocated k n ↔ page q = .allocated k n)
    (hr : ∀ q k n, InRun (run' k n) q ∧ held' k n q ↔ InRun (run k n) q ∧ held k n q) :
    PagesMatch page' run' held' := fun q k n => by
  rw [hp, hr, h q k n]

/-- The scrub takes a page of a bank: the bank holds all its other pages (R89). -/
theorem PagesMatch.taken {p k₀ : Nat} {n₀ : BankNo} (h : PagesMatch page run held)
    (hp : ∀ q k n, page' q = .allocated k n ↔ q ≠ p ∧ page q = .allocated k n)
    (hk : page p = .allocated k₀ n₀) (hsub : ∀ k n q, held' k n q → held k n q)
    (hnot : ¬ held' k₀ n₀ p)
    (hrest : ∀ k n q, InRun (run k n) q → held k n q → q ≠ p → held' k n q) :
    PagesMatch page' run held' := fun q k n => by
  rw [hp]
  constructor
  · rintro ⟨hq, ha⟩
    obtain ⟨hin, hheld⟩ := (h q k n).1 ha
    exact ⟨hin, hrest k n q hin hheld hq⟩
  · rintro ⟨hin, hheld⟩
    have ha := (h q k n).2 ⟨hin, hsub k n q hheld⟩
    refine ⟨?_, ha⟩
    rintro rfl
    cases hk.symm.trans ha
    exact hnot hheld

end Match

theorem page_released_allocated (s : State) {p : Nat} (h : s.page p = .scrubbing) (q k : Nat) (n : BankNo) :
    (s.setPage p .free).page q = .allocated k n ↔ s.page q = .allocated k n := by
  rw [State.page_setPage]
  split
  · rename_i e
    simp [e, h]
  · rfl

theorem writtenZero_released {p : Nat} (h : ∀ q, s.page q = .free → s.xm.writtenZero q)
    (hp : s.xm.writtenZero p) (q : Nat) (hq : (s.setPage p .free).page q = .free) :
    s.xm.writtenZero q := by
  rw [State.page_setPage] at hq
  split at hq
  · rename_i e
    exact e ▸ hp
  · exact h q hq

/-- The request for a page takes it from its bank (R89). -/
theorem pagesHeld_requestScrub {r : RetireRecord} {held : Nat → BankNo → Nat → Prop}
    (h : PagesMatch s.page s.bankRun held) (hz : ∀ p, s.page p = .free → s.xm.writtenZero p)
    (hp : s.page r.page = .allocated r.window r.bank)
    (hsub : ∀ n q, (n = r.bank ∧ r.page < q) ∨ (r.bank = .zero ∧ n = .one) → held r.window n q)
    (hother : ∀ k n q, r.window ≠ k → held k n q)
    (hrest : ∀ n q, InRun (s.bankRun r.window n) q → held r.window n q → q ≠ r.page →
      (n = r.bank ∧ r.page < q) ∨ (r.bank = .zero ∧ n = .one)) : PagesHeld (s.requestScrub r) := by
  have hpage : ∀ q, (s.requestScrub r).page q = if q = r.page then .scrubbing else s.page q :=
    fun q => s.page_setPage r.page q .scrubbing
  have hst : (s.requestScrub r).retire.state = .scrubbing r .requested := rfl
  refine pagesHeld_iff.2 ⟨?_, fun p hf => hz p ?_, fun r' stage e => ?_, fun page stage e => ?_⟩
  · refine h.taken (fun q k n => ?_) hp (fun k n q hh => ?_) (fun hh => ?_) fun k n q hin hh hq => ?_
    · rw [hpage]
      by_cases hq : q = r.page <;> simp [hq]
    · rw [stillHeld_scrubbing hst] at hh
      by_cases hk : r.window = k
      · subst hk
        exact hsub n q (hh rfl)
      · exact hother k n q hk
    · rw [stillHeld_scrubbing hst] at hh
      rcases hh rfl with ⟨-, hlt⟩ | ⟨h0, h1⟩
      · exact Nat.lt_irrefl _ hlt
      · exact BankNo.noConfusion (h0.symm.trans h1)
    · rw [stillHeld_scrubbing hst]
      rintro rfl
      exact hrest n q hin hh hq
  · rw [hpage] at hf
    split at hf
    · cases hf
    · exact hf
  · rw [hst] at e
    cases e
    exact ⟨(hpage _).trans (if_pos rfl), fun e => nomatch e⟩
  · rw [hst] at e
    cases e

theorem stillHeld_sweeping {r : RetireRecord} (h : s.retire.state = .sweeping r) (k : Nat) (n : BankNo)
    (p : Nat) : s.stillHeld k n p := by
  unfold State.stillHeld
  rw [h]
  trivial

theorem stillHeld_idle (h : s.retire.state = .idle) (k : Nat) (n : BankNo) (p : Nat) :
    s.stillHeld k n p := by
  unfold State.stillHeld
  rw [h]
  trivial

theorem stillHeld_startUp {page : Nat} {stage : ScrubStage} (h : s.retire.state = .startUp page stage)
    (k : Nat) (n : BankNo) (p : Nat) : s.stillHeld k n p := by
  unfold State.stillHeld
  rw [h]
  trivial

/-- Where no scrub is under way, only the runs and the FREE pages count. -/
theorem pagesHeld_of_unscrubbed (h1 : PagesMatch t.page t.bankRun t.stillHeld)
    (h2 : ∀ p, t.page p = .free → t.xm.writtenZero p)
    (hs : ∀ r stage, t.retire.state ≠ .scrubbing r stage)
    (hu : ∀ page stage, t.retire.state ≠ .startUp page stage) : PagesHeld t :=
  pagesHeld_iff.2 ⟨h1, h2, fun r stage e => absurd e (hs r stage), fun p stage e => absurd e (hu p stage)⟩

/-- The taking of a window by the Retire Engine moves no page (R87). -/
theorem PagesHeld.retireTaken {k : Nat} {rest : List Nat} {w : Window} {cause : RetireCause}
    (h : PagesHeld s) (hs : s.retire.state = .idle) (hw : s.window? k = some w) :
    PagesHeld { s.putWindow k { w with state := .clearing } with
      retire.queue := rest, retire.state := .sweeping (w.retireRecord k cause) } := by
  obtain ⟨h1, h2, -⟩ := pagesHeld_iff.1 h
  have hrun := bankRun_of_put (t := s.putWindow k { w with state := .clearing }) hw
    (s.window?_putWindow k · _) (fun n => by cases n <;> rfl)
  refine pagesHeld_of_unscrubbed (h1.congr (fun _ _ _ => Iff.rfl) fun q j n => ?_) h2
    (fun _ _ => RetireState.noConfusion) fun _ _ => RetireState.noConfusion
  rw [and_iff_left (stillHeld_idle hs j n q), and_iff_left (stillHeld_sweeping rfl j n q), ← hrun j n]
  exact Iff.rfl

/-- The end of the sweep takes the first page of the window (R88, R89). -/
theorem PagesHeld.swept {r : RetireRecord} {root : Nat} {damaged : Bool} (hw : WorkAccounted s)
    (h : PagesHeld s) (hs : s.retire.state = .sweeping r) :
    PagesHeld (s.requestScrub { r with rootSelector := root, damaged := damaged }) := by
  obtain ⟨h1, h2, -⟩ := pagesHeld_iff.1 h
  have hheld := hw.retireHeld
  rw [hs] at hheld
  obtain ⟨hb, c, hr⟩ := hheld
  have hc := (hw.run_pos hr).2
  have hall := stillHeld_sweeping hs
  refine pagesHeld_requestScrub h1 h2 ((h1 _ _ _).2 ⟨⟨r.page, c, by rw [hb]; exact hr, le_refl _,
    by simp only; omega⟩, hall _ _ _⟩) (fun _ _ _ => hall _ _ _) (fun _ _ _ _ => hall _ _ _) ?_
  rintro (_ | _) q ⟨f, c', hr', h1', -⟩ - hq
  · cases hr.symm.trans hr'
    exact .inl ⟨hb.symm, Nat.lt_of_le_of_ne h1' (Ne.symm hq)⟩
  · exact .inr ⟨hb, rfl⟩

theorem PagesHeld.pageScrubbed {r : RetireRecord} (h : PagesHeld s)
    (hs : s.retire.state = .scrubbing r .requested) :
    PagesHeld { s with xm := s.xm.scrubPage r.page, retire.state := .scrubbing r .scrubbed } := by
  obtain ⟨h1, h2, h3, -⟩ := pagesHeld_iff.1 h
  refine pagesHeld_iff.2 ⟨h1.congr (fun _ _ _ => Iff.rfl) fun q k n => and_congr_right fun _ => ?_,
    fun p hf => Memory.writtenZero_scrubPage (.inr (h2 p hf)), fun r' stage e => ?_,
    fun page stage e => nomatch e⟩
  · rw [stillHeld_scrubbing rfl, stillHeld_scrubbing hs]
  · cases e
    exact ⟨(h3 r _ hs).1, fun _ => Memory.writtenZero_scrubPage (.inl rfl)⟩

/-- The next page of the scrub is taken as the last is released (R89). -/
theorem PagesHeld.pageNext {r : RetireRecord} {n : BankNo} {p : Nat} (hw : WorkAccounted s)
    (h : PagesHeld s) (hs : s.retire.state = .scrubbing r .scrubbed)
    (hn : ((s.window? r.window).bind fun w => w.nextScrub r.bank r.page) = some (n, p)) :
    PagesHeld ((s.setPage r.page .free).requestScrub { r with bank := n, page := p }) := by
  obtain ⟨h1, h2, h3, -⟩ := pagesHeld_iff.1 h
  obtain ⟨hpage, hzero⟩ := h3 r _ hs
  have hst := stillHeld_scrubbing hs
  have hheld := hw.retireHeld
  rw [hs] at hheld
  obtain ⟨f, c, hr, hf, hc⟩ := hheld
  obtain ⟨w, hwin, hnext⟩ := Option.bind_eq_some_iff.1 hn
  obtain ⟨b, hb, hcase⟩ := nextScrub_eq_some hnext
  cases (bankRun_of_window hwin hb).symm.trans hr
  have h1' : PagesMatch (s.setPage r.page .free).page s.bankRun s.stillHeld :=
    h1.congr (page_released_allocated s hpage) fun _ _ _ => Iff.rfl
  have hother : ∀ k n q, r.window ≠ k → s.stillHeld k n q := fun k n q hk =>
    (hst k n q).2 fun e => absurd e hk
  obtain ⟨rfl, rfl, hlt⟩ | ⟨hb0, rfl, hend, b1, hb1, rfl⟩ := hcase
  · refine pagesHeld_requestScrub h1' (writtenZero_released h2 (hzero rfl))
      ((h1' _ _ _).2 ⟨⟨_, _, hr, by simp only; omega, hlt⟩,
        (hst ..).2 fun _ => .inl ⟨rfl, Nat.lt_succ_self _⟩⟩)
      (fun m q hh => (hst ..).2 fun _ => ?_) hother fun m q _ hh hq => ?_
    · exact hh.imp_left fun hh => ⟨hh.1, by have := hh.2; simp only at this; omega⟩
    · exact ((hst ..).1 hh rfl).imp_left fun hh => ⟨hh.1, by simp only at hq ⊢; omega⟩
  · have hr1 := bankRun_of_window hwin hb1
    have hc1 := (hw.run_pos hr1).2
    refine pagesHeld_requestScrub h1' (writtenZero_released h2 (hzero rfl))
      ((h1' _ _ _).2 ⟨⟨_, _, hr1, le_refl _, by simp only; omega⟩,
        (hst ..).2 fun _ => .inr ⟨hb0, rfl⟩⟩)
      (fun m q hh => (hst ..).2 fun _ => ?_) hother fun m q hin hh hq => ?_
    · rcases hh with hh | hh
      · exact .inr ⟨hb0, hh.1⟩
      · exact BankNo.noConfusion hh.1
    · obtain ⟨f', c', hr', hge, hlt⟩ := hin
      rcases (hst ..).1 hh rfl with ⟨rfl, hgt⟩ | ⟨-, rfl⟩
      · cases hr.symm.trans hr'
        omega
      · cases hr1.symm.trans hr'
        exact .inl ⟨rfl, Nat.lt_of_le_of_ne hge (Ne.symm hq)⟩

/-- After the last page of a window there is none in its bank, and no bank 1 after bank 0 (R89). -/
theorem nextScrub_eq_none {w : Window} {n : BankNo} {page : Nat} {b : Bank}
    (h : w.nextScrub n page = none) (hb : w.bank? n = some b) :
    b.firstPage + b.pageCount ≤ page + 1 ∧ (n = .zero → w.bank? .one = none) := by
  simp only [Window.nextScrub, hb] at h
  split at h
  · cases h
  · rename_i hp
    refine ⟨Nat.le_of_not_lt hp, ?_⟩
    rintro rfl
    exact Option.map_eq_none_iff.1 h

/-- With the last page released no page of the window is left (R89, R90). -/
theorem PagesHeld.pageLast {r : RetireRecord} (hw : WorkAccounted s)
    (h : PagesHeld s) (hs : s.retire.state = .scrubbing r .scrubbed)
    (hn : ((s.window? r.window).bind fun w => w.nextScrub r.bank r.page) = none) :
    PagesHeld { s.setPage r.page .free with retire.state := .freeing r } := by
  obtain ⟨h1, h2, h3, -⟩ := pagesHeld_iff.1 h
  obtain ⟨hpage, hzero⟩ := h3 r _ hs
  have hheld := hw.retireHeld
  rw [hs] at hheld
  obtain ⟨f, c, hr, hf, hc⟩ := hheld
  obtain ⟨w, b, hwin, hb, rfl, rfl⟩ := bankRun_eq_some.1 hr
  rw [hwin] at hn
  obtain ⟨hend, hnone⟩ := nextScrub_eq_none hn hb
  refine pagesHeld_of_unscrubbed
    (h1.congr (page_released_allocated s hpage) fun q k n => and_congr_right fun hin => ?_)
    (writtenZero_released h2 (hzero rfl))
    (fun _ _ => RetireState.noConfusion) fun _ _ => RetireState.noConfusion
  rw [stillHeld_freeing rfl, stillHeld_scrubbing hs]
  refine ⟨fun hne e => absurd e hne, fun hh e => ?_⟩
  subst e
  obtain ⟨f', c', hr', hge, hlt⟩ := (show InRun (s.bankRun r.window n) q from hin)
  rcases hh rfl with ⟨rfl, hgt⟩ | ⟨h0, rfl⟩
  · cases hr.symm.trans hr'
    omega
  · obtain ⟨w', b', hw', hb', -⟩ := bankRun_eq_some.1 hr'
    cases hwin.symm.trans hw'
    cases (hnone h0).symm.trans hb'

/-- A window freed has no page left (R90). -/
theorem PagesHeld.freed {r : RetireRecord} (h : PagesHeld s) (hs : s.retire.state = .freeing r) :
    PagesHeld { s with
      dir.windows := Table.remove s.dir.windows r.window, retire.state := .idle } := by
  obtain ⟨h1, h2, -⟩ := pagesHeld_iff.1 h
  refine pagesHeld_of_unscrubbed (h1.congr (fun _ _ _ => Iff.rfl) fun q k n => ?_) h2
    (fun _ _ => RetireState.noConfusion) fun _ _ => RetireState.noConfusion
  have hrun : State.bankRun { s with
      dir.windows := Table.remove s.dir.windows r.window, retire.state := .idle } k n
      = if k = r.window then none else s.bankRun k n := by
    rw [bankRun_eq, bankRun_eq]
    refine (congrArg (Option.bind · _) (Table.at?_remove s.dir.windows r.window k)).trans ?_
    split <;> rfl
  rw [hrun, stillHeld_freeing hs, and_iff_left (stillHeld_idle rfl k n q)]
  by_cases hk : k = r.window
  · simp [hk, InRun]
  · simp [hk, Ne.symm hk]

/-! ### The start of the part -/

theorem page_reset (p : Nat) : State.reset.page p = .scrubbing := rfl

theorem pagesHeld_reset {pending : List Instr} {m : Memory} {e : EventUnit} :
    PagesHeld { State.reset with pending := pending, xm := m, events := e } := by
  have hnone : ∀ p x, x ≠ .scrubbing → State.reset.page p ≠ x := fun p x hx e =>
    hx (e.symm.trans (page_reset p))
  refine pagesHeld_iff.2 ⟨fun p k n => ⟨fun h => absurd h (hnone p _ PageState.noConfusion), ?_⟩,
    fun p h => absurd h (hnone p _ PageState.noConfusion), ?_, ?_⟩
  · rintro ⟨⟨f, c, e, -⟩, -⟩
    cases e
  · intro r stage e
    cases e
  · intro page stage e
    cases e
    exact ⟨fun p _ => page_reset p, ScrubStage.noConfusion⟩

theorem PagesHeld.startupScrubbed {page : Nat} {stage : ScrubStage} (h : PagesHeld s)
    (hs : s.retire.state = .startUp page stage) :
    PagesHeld { s with xm := s.xm.scrubPage page, retire.state := .startUp page .scrubbed } := by
  obtain ⟨h1, h2, -, h4⟩ := pagesHeld_iff.1 h
  refine pagesHeld_iff.2 ⟨h1.congr (fun _ _ _ => Iff.rfl) fun q k n => and_congr_right fun _ =>
    iff_of_true (stillHeld_startUp rfl k n q) (stillHeld_startUp hs k n q),
    fun p hf => Memory.writtenZero_scrubPage (.inr (h2 p hf)), ?_, ?_⟩
  · intro r stage e
    cases e
  · intro p stage e
    cases e
    exact ⟨(h4 page _ hs).1, fun _ => Memory.writtenZero_scrubPage (.inl rfl)⟩

/-- The release of a page of the start-up scrub (R170), the engine going to the next page or to rest. -/
theorem PagesHeld.startupReleased {page : Nat} {x : RetireState} {endReport : Bool} (h : PagesHeld s)
    (hs : s.retire.state = .startUp page .scrubbed)
    (hx : x = .idle ∨ x = .startUp (page + 1) .requested) :
    PagesHeld { s.setPage page .free with retire.state := x, retire.endReport := endReport } := by
  obtain ⟨h1, h2, -, h4⟩ := pagesHeld_iff.1 h
  obtain ⟨hall, hzero⟩ := h4 page _ hs
  refine pagesHeld_iff.2 ⟨h1.congr (page_released_allocated s (hall page (le_refl _)))
    fun q k n => and_congr_right fun _ => iff_of_true ?_ (stillHeld_startUp hs k n q),
    writtenZero_released h2 (hzero rfl), fun r stage e => ?_, fun p stage e => ?_⟩
  · rcases hx with rfl | rfl
    · exact stillHeld_idle rfl k n q
    · exact stillHeld_startUp rfl k n q
  · rcases hx with rfl | rfl <;> cases e
  · rcases hx with rfl | rfl
    · cases e
    · cases e
      refine ⟨fun p hp => ?_, fun e => nomatch e⟩
      have hne : p ≠ page := by omega
      exact (s.page_setPage page p .free).trans ((if_neg hne).trans (hall p (by omega)))

/-! ### A window opened -/

theorem value_allocateRun (pages : Table PageState) (k : Nat) (n : BankNo) (first count p : Nat) :
    Table.value .scrubbing (allocateRun pages k n first count) p
      = if first ≤ p ∧ p < first + count then .allocated k n else Table.value .scrubbing pages p := by
  unfold allocateRun Table.fillRun
  rw [Table.value_writeRun, List.length_replicate]
  split
  · rw [List.getD_eq_getElem _ _ (by rw [List.length_replicate]; omega), List.getElem_replicate]
  · rfl

/-- The pages of a run of the new window are allocated to its bank, bank 1 before bank 0 where both
would take one, and every other page is as it was (R108). -/
theorem State.page_openWindow (s : State) (x : OpenTicket) (p : Nat) :
    (∀ b, x.window.bank1 = some b → b.firstPage ≤ p ∧ p < b.firstPage + b.pageCount →
        (s.openWindow x).page p = .allocated x.index .one)
      ∧ ((∀ b, x.window.bank1 = some b → ¬(b.firstPage ≤ p ∧ p < b.firstPage + b.pageCount)) →
        (s.openWindow x).page p
          = if x.first0 ≤ p ∧ p < x.first0 + pagesOf x.request.length0 then .allocated x.index .zero
            else s.page p) := by
  have h : (s.openWindow x).page p = Table.value .scrubbing
      (allocateBank (allocateRun s.alloc.pages x.index .zero x.first0 (pagesOf x.request.length0)) x.index .one
        x.window.bank1) p := rfl
  rcases hb : x.window.bank1 with _ | b
  · rw [h, hb]
    exact ⟨fun b e => (nomatch e), fun _ => value_allocateRun ..⟩
  · rw [h, hb]
    refine ⟨fun b' e hin => ?_, fun hout => ?_⟩
    · cases e
      exact (value_allocateRun ..).trans (if_pos hin)
    · exact (value_allocateRun ..).trans ((if_neg (hout b rfl)).trans (value_allocateRun ..))

/-- The runs of a new window are of FREE pages, and apart (R108). -/
structure OpenTicket.Placed (s : State) (x : OpenTicket) : Prop where
  free0 : ∀ p, x.first0 ≤ p → p < x.first0 + pagesOf x.request.length0 → s.page p = .free
  free1 : ∀ b, x.window.bank1 = some b → ∀ p, b.firstPage ≤ p → p < b.firstPage + b.pageCount →
    s.page p = .free ∧ ¬(x.first0 ≤ p ∧ p < x.first0 + pagesOf x.request.length0)

theorem checkOpenWindow_placed {i : PortId} {a : OpenParams} {x : OpenTicket}
    (h : checkOpenWindow i a s = .ok x) (hx : ReservesAllowed s.policy) : x.Placed s := by
  obtain ⟨-, hr, -, -, hp⟩ := checkOpenWindow_ok h
  obtain ⟨⟨-, hfree0⟩, hp1⟩ := place_eq_some hx hp
  refine ⟨fun p h1 h2 => ?_, fun b hb p h1 h2 => ?_⟩
  · have := hfree0 (p - x.first0) (by omega)
    rw [show x.first0 + (p - x.first0) = p by omega] at this
    exact of_decide_eq_true this
  · obtain ⟨n, f, hn, hf, rfl⟩ := OpenTicket.bank1_eq_some hb
    simp only at h1 h2
    have hfree1 := (hp1 f (pagesOf n) hf (by rw [hn]; rfl)).2 (p - f) (by omega)
    rw [show f + (p - f) = p by omega] at hfree1
    exact ⟨of_decide_eq_true hfree1.1, hfree1.2⟩

theorem inRun_zero {x : OpenTicket} {p : Nat} : InRun (x.window.run .zero) p
    ↔ x.first0 ≤ p ∧ p < x.first0 + pagesOf x.request.length0 := by
  constructor
  · rintro ⟨f, c, e, h⟩
    cases e
    exact h
  · exact fun h => ⟨_, _, rfl, h⟩

theorem inRun_one {x : OpenTicket} {p : Nat} : InRun (x.window.run .one) p
    ↔ ∃ b, x.window.bank1 = some b ∧ b.firstPage ≤ p ∧ p < b.firstPage + b.pageCount := by
  constructor
  · rintro ⟨f, c, e, h⟩
    obtain ⟨b, hb, e⟩ := Option.map_eq_some_iff.1 e
    cases e
    exact ⟨b, hb, h⟩
  · rintro ⟨b, hb, h⟩
    exact ⟨_, _, by rw [Window.run, show x.window.bank? .one = some b from hb]; rfl, h⟩

/-- What the opening makes of each page: allocated to the bank whose run holds it, which was FREE, or as
it was (R108). -/
theorem OpenTicket.Placed.page {x : OpenTicket} (h : x.Placed s) (p : Nat) :
    (∃ n, InRun (x.window.run n) p ∧ (∀ m, InRun (x.window.run m) p → m = n) ∧ s.page p = .free
        ∧ (s.openWindow x).page p = .allocated x.index n)
      ∨ ((∀ n, ¬ InRun (x.window.run n) p) ∧ (s.openWindow x).page p = s.page p) := by
  obtain ⟨h1, h0⟩ := s.page_openWindow x p
  by_cases hone : InRun (x.window.run .one) p
  · obtain ⟨b, hb, hin⟩ := inRun_one.1 hone
    obtain ⟨hfree, hout⟩ := h.free1 b hb p hin.1 hin.2
    refine .inl ⟨.one, hone, ?_, hfree, h1 b hb hin⟩
    rintro (_ | _) hm
    · exact absurd (inRun_zero.1 hm) hout
    · rfl
  · have h0 := h0 fun b hb hin => hone (inRun_one.2 ⟨b, hb, hin⟩)
    by_cases hzero : InRun (x.window.run .zero) p
    · have hin := inRun_zero.1 hzero
      rw [if_pos hin] at h0
      refine .inl ⟨.zero, hzero, ?_, h.free0 p hin.1 hin.2, h0⟩
      rintro (_ | _) hm
      · rfl
      · exact absurd hm hone
    · rw [if_neg (mt inRun_zero.2 hzero)] at h0
      refine .inr ⟨?_, h0⟩
      rintro (_ | _)
      · exact hzero
      · exact hone

/-- The opening of a window keeps the page map in step with the records (R103, R108). -/
theorem PagesHeld.opened {i : PortId} {a : OpenParams} {x : OpenTicket} (hw : WorkAccounted s)
    (h : PagesHeld s) (hx : checkOpenWindow i a s = .ok x) : PagesHeld (s.openWindow x) := by
  have hpl := (checkOpenWindow_placed hx hw.reservesAllowed).page
  obtain ⟨-, -, -, hk, -⟩ := checkOpenWindow_ok hx
  have hfree := freeWindow_eq_some hk
  obtain ⟨h1, h2, h3, h4⟩ := pagesHeld_iff.1 h
  have hkeep : ∀ p, s.page p = .scrubbing → (s.openWindow x).page p = .scrubbing := fun p hp => by
    rcases hpl p with ⟨n, -, -, hf, -⟩ | ⟨-, e⟩
    · cases hf.symm.trans hp
    · exact e.trans hp
  refine pagesHeld_iff.2 ⟨fun p k n => ?_, fun p hp => h2 p ?_, fun r stage e => ?_, fun page stage e => ?_⟩
  · have hrun : (s.openWindow x).bankRun k n = if x.index = k then x.window.run n else s.bankRun k n := by
      rw [bankRun_eq, bankRun_eq, s.window?_openWindow x k]
      split <;> rfl
    have hheld : (s.openWindow x).stillHeld k n p ↔ s.stillHeld k n p := by
      rw [stillHeld_congr (s := s) (t := s.openWindow x) rfl]
    rw [hrun, hheld]
    have hold := h1 p k n
    by_cases hk : x.index = k
    · subst hk
      have hnone : s.bankRun x.index n = none := by
        rw [bankRun_eq, hfree]
        rfl
      have hall : s.stillHeld x.index n p := stillHeld_of_not_clearing (fun swept e => by
        obtain ⟨w, hw, -⟩ := hw.clearing e
        cases hfree.symm.trans hw) n p
      rw [if_pos rfl, and_iff_left hall]
      have hnot : s.page p ≠ .allocated x.index n := fun e => by
        obtain ⟨⟨f, c, e, -⟩, -⟩ := hold.1 e
        cases hnone.symm.trans e
      rcases hpl p with ⟨m, hin, hm, -, e⟩ | ⟨hout, e⟩
      · rw [e]
        constructor
        · intro e'
          cases e'
          exact hin
        · exact fun hn => by rw [hm n hn]
      · rw [e]
        exact iff_of_false hnot (hout n)
    · rw [if_neg hk, ← hold]
      rcases hpl p with ⟨m, -, -, hf, e⟩ | ⟨-, e⟩
      · rw [e, hf]
        simp [hk]
      · rw [e]
  · rcases hpl p with ⟨n, -, -, hf, -⟩ | ⟨-, e⟩
    · exact hf
    · exact e ▸ hp
  · obtain ⟨g1, g2⟩ := h3 r stage e
    exact ⟨hkeep _ g1, g2⟩
  · obtain ⟨g1, g2⟩ := h4 page stage e
    exact ⟨fun p hp => hkeep p (g1 p hp), g2⟩

/-! ### Every step -/

theorem PagesHeld.lowered {x : Transfer} {c : Completion} {i : PortId} {last : LastResult}
    (h : PagesHeld s) : PagesHeld ((s.lowerTransfer x c).freePort i last) :=
  PagesHeld.congr (s := s.lowerTransfer x c) (h.keeps (keepsWork_lowerTransfer s x c)
    (bankRun_of_map (c := (· = x.window)) (f := fun _ w => w.lowered (x.damages c))
      (s.window?_lowerTransfer x c) fun _ _ n _ => by cases n <;> rfl))
    (fun _ => rfl) (fun _ _ => rfl) rfl fun _ _ hz => hz

theorem PagesHeld.moveStarted {r : MoveRequest} {x : Resolved} (h : PagesHeld s) :
    PagesHeld (s.startMove r x) := by
  obtain ⟨y, -, hk⟩ := s.startMove_keeps r x
  refine PagesHeld.keeps ?_ hk
    (bankRun_of_map (c := fun j => j = x.srcWindow ∨ j = x.dstWindow)
      (f := fun _ w => { w with pinned := true }) (s.window?_startMove r x)
      fun _ w n _ => run_pinned w true n)
  exact h

theorem PagesHeld.moveEnded {r : MoveRequest} {dataError : Bool} (h : PagesHeld s) :
    PagesHeld (s.releaseHead r dataError) := by
  refine PagesHeld.keeps ?_ (s.releaseHead_keeps r dataError)
    (bankRun_of_map (c := (· ∈ r.releases)) (f := fun j w => w.released (dataError && r.readsFrom j))
      (s.window?_releaseHead r dataError) fun _ _ n _ => by cases n <;> rfl)
  exact h

/-- Whatever a command or an event does keeps the pages as the records say (R102 to R104). -/
theorem PagesHeld.effect (hm : MemoryCanonical s) (hw : WorkAccounted s) (h : PagesHeld s)
    (he : Effect s t) : PagesHeld t := by
  cases he with
  | leads hl => exact h.leads hl
  | latched hl _ => exact PagesHeld.leads (s := { s with dir.tamper := true }) h hl
  | unlatched ht => exact PagesHeld.same (s := { s with dir.tamper := false }) h ht
  | reserved n p _ _ ht =>
    exact PagesHeld.same (s := { s with policy.nReserve := n, policy.pReserve := p }) h ht
  | locked i _ ht => exact PagesHeld.same (s := { s with policy.phase := .running }) h ht
  | opened i a x hx ht => exact (PagesHeld.opened hw h hx).same ht
  | admitted i x w b _ hw' _ _ _ _ ht =>
    refine PagesHeld.same ?_ ht
    exact h.congr (fun _ => rfl)
      (bankRun_of_put hw' (s.window?_putWindow x.window · _) (run_inFlight w _)) rfl fun _ _ hz => hz
  | waits i _ ht =>
    exact PagesHeld.same (s := s.setPort i { s.port i with state := .resetting }) h ht
  | granted i x c m hx hst ht =>
    obtain ⟨hrun, hk⟩ := hw.transferHeld hx
    refine PagesHeld.same ?_ ht
    exact h.congr (fun _ => rfl) (fun _ _ => rfl) rfl (h.stored hm hk hrun hst)
  | completed i x c last _ ht => exact (h.lowered.settleAll _).leads ht
  | moveTaken r _ _ => exact h
  | moveStarted r x _ _ _ => exact h.moveStarted
  | moveAdvanced r n x c p m _ hr _ _ hst ht =>
    refine PagesHeld.same ?_ ht
    refine h.congr (fun _ => rfl) (fun _ _ => rfl) rfl fun q hq hz => ?_
    obtain ⟨flips, rfl⟩ | ⟨y, hy, hst⟩ := hst
    · exact Memory.writtenZero_disturb flips hm hz
    · obtain ⟨hrun, hk⟩ := hw.chunkHeld hr hy
      exact h.stored hm hk hrun hst q hq hz
  | moveEnded r dataError _ _ ht => exact (h.moveEnded.settleAll _).same ht
  | retireTaken k rest w cause hs _ hw' _ => exact h.retireTaken hs hw'
  | swept r root damaged hs ht => exact (PagesHeld.swept hw h hs).same ht
  | pageScrubbed r hs ht => exact (h.pageScrubbed hs).same ht
  | pageNext r n p hs hn ht => exact (PagesHeld.pageNext hw h hs hn).same ht
  | pageLast r hs hn ht => exact (PagesHeld.pageLast hw h hs hn).same ht
  | freed r hs ht => exact (h.freed hs).same ht
  | deviceReset pending m e => exact pagesHeld_reset
  | startupScrubbed page stage hs ht => exact (h.startupScrubbed hs).same ht
  | startupNext page hs _ ht => exact (h.startupReleased hs (.inr rfl)).same ht
  | startupLast page hs ht => exact (h.startupReleased hs (.inl rfl)).same ht
  | scrubEnded _ => exact h

/-- Settles O58: every step has one of the effects, each of which keeps the work in flight accounted for and
the page map in step with the records. -/
theorem workStaysAccounted : Obligations.WorkStaysAccounted := by
  unfold Obligations.WorkStaysAccounted
  constructor
  · intro s t h hstep
    obtain ⟨rest, he⟩ := step_effect hstep
    exact WorkAccounted.effect (s := { s with pending := rest }) h he
  · rintro s t ⟨hm, hw, h⟩ hstep
    obtain ⟨rest, he⟩ := step_effect hstep
    exact PagesHeld.effect (s := { s with pending := rest }) hm hw h he

end Sys2Proof.Machine
end

section
/-! SUPPORT. The vocabulary of the statements, ready for use: what leaves every other piece of state as it
was, and a command's checks set beside the manual's list of them.
-/

namespace Sys2Proof.Machine

variable {s t u : State}

/-! ### Frames -/

theorem Place.same_refl (s : State) (x : Place) : x.same s s := by
  cases x
  case reserves => exact ⟨rfl, rfl⟩
  all_goals exact rfl

theorem Place.same_trans {x : Place} (h : x.same s t) (h' : x.same t u) : x.same s u := by
  cases x
  case reserves => exact ⟨h'.1.trans h.1, h'.2.trans h.2⟩
  all_goals exact Eq.trans h' h

theorem UnchangedBut.refl (changed : Place → Prop) (s : State) : UnchangedBut changed s s :=
  fun x _ => x.same_refl s

/-- One change after another leaves what both leave. -/
theorem UnchangedBut.trans {p q r : Place → Prop} (h : UnchangedBut p s t) (h' : UnchangedBut q t u)
    (hp : ∀ x, p x → r x) (hq : ∀ x, q x → r x) : UnchangedBut r s u := fun x hx =>
  Place.same_trans (h x (mt (hp x) hx)) (h' x (mt (hq x) hx))

/-- What is left by a change of less is left by a change of more. -/
theorem UnchangedBut.mono {p r : Place → Prop} (h : UnchangedBut p s t) (hp : ∀ x, p x → r x) :
    UnchangedBut r s t := fun x hx => h x (mt (hp x) hx)

/-- An answer after a change adds the response to what may change. -/
theorem UnchangedBut.answer {p r : Place → Prop} {i : PortId} {code : ResultCode} {detail : List Byte}
    (h : UnchangedBut p s t) (hp : ∀ x, p x → r x) (hr : r (.response i)) :
    UnchangedBut r s (t.answer i code detail) :=
  h.trans (t.answer_unchangedBut i code detail) hp fun _ e => e ▸ hr

theorem unchangedBut_putWindow (s : State) (k : Nat) (w : Window) :
    UnchangedBut (· = .window k) s (s.putWindow k w) := by
  intro x hx
  cases x
  case window j =>
    have hne : k ≠ j := fun e => hx (by rw [e])
    exact (s.window?_putWindow k j w).trans (if_neg hne)
  case reserves => exact ⟨rfl, rfl⟩
  all_goals exact rfl

theorem unchangedBut_putQueued (s : State) (k : Nat) (w : Window) (joins : Bool) :
    UnchangedBut (fun x => x = .window k ∨ x = .retireQueue) s (s.putQueued k w joins) := by
  intro x hx
  have hw := unchangedBut_putWindow s k w x fun e => hx (.inl e)
  cases x
  case retireQueue => exact absurd (.inr rfl) hx
  all_goals exact hw

theorem unchangedBut_putView (s : State) (v : ViewId) (x : View) :
    UnchangedBut (· = .view v.key) s (s.putView v x) := by
  intro y hy
  cases y
  case view j =>
    have hne : v.key ≠ j := fun e => hy (by rw [e])
    exact (Table.at?_put ..).trans (if_neg hne)
  case reserves => exact ⟨rfl, rfl⟩
  all_goals exact rfl

theorem unchangedBut_setCounter (s : State) (h : Holder) (c : Counter) :
    UnchangedBut (· = .counter h) s (s.setCounter h c) := by
  intro x hx
  cases x
  case counter g =>
    have hne : g.code ≠ h.code := fun e => hx (by rw [Holder.code_injective e])
    exact (s.counter_setCounter h g c).trans (if_neg hne)
  case reserves => exact ⟨rfl, rfl⟩
  all_goals exact rfl

theorem unchangedBut_postAll (s : State) (ns : List Notice) :
    UnchangedBut Place.isNotice s (s.postAll ns) := by
  intro x hx
  cases x
  case notices => exact absurd trivial hx
  case noticesLost => exact absurd trivial hx
  case actingSlot => exact s.postAll_acting ns
  case reserves => exact ⟨rfl, rfl⟩
  all_goals first | rfl | simp only [Place.same, State.column, State.port_postAll]

/-! ### Checks in the manual's order -/

/-- The checks end as a list of them says: in the code of the first entry that fails, or not refused. -/
def Mirrors {α : Type} (checks : List (Bool × ResultCode)) : Except ResultCode α → Prop
  | .error code => firstFailure checks = some code
  | .ok _ => firstFailure checks = none

theorem firstFailure_append (l m : List (Bool × ResultCode)) :
    firstFailure (l ++ m) = (firstFailure l).or (firstFailure m) := by
  simp [firstFailure, List.find?_append, Option.map_or]

section Mirrors

variable {α β : Type} {l m : List (Bool × ResultCode)} {x : Except ResultCode α} {code : ResultCode}

theorem Mirrors.error (h : Mirrors l x) (hl : firstFailure l = some code) : x = .error code := by
  rcases x with c | a
  · exact congrArg _ (Option.some.inj (h.symm.trans hl))
  · cases h.symm.trans hl

theorem Mirrors.ok (h : Mirrors l x) (hl : firstFailure l = none) : ∃ a, x = .ok a := by
  rcases x with c | a
  · cases h.symm.trans hl
  · exact ⟨a, rfl⟩

/-- Checks one after the other are the one list after the other. -/
theorem Mirrors.bind {f : α → Except ResultCode β} (hx : Mirrors l x)
    (hf : ∀ a, x = .ok a → Mirrors m (f a)) : Mirrors (l ++ m) (x >>= f) := by
  have happ := firstFailure_append l m
  rcases x with c | a
  · exact happ.trans (by rw [show firstFailure l = some c from hx]; rfl)
  · rw [show firstFailure l = none from hx, Option.none_or] at happ
    have ha := hf a rfl
    rw [Checks.ok_bind]
    rcases hfa : f a with c | b <;> rw [hfa] at ha <;> exact happ.trans ha

/-- One check before the rest. -/
theorem Mirrors.cons {e : Bool × ResultCode} {f : α → Except ResultCode β} (hx : Mirrors [e] x)
    (hf : ∀ a, x = .ok a → Mirrors m (f a)) : Mirrors (e :: m) (x >>= f) := hx.bind hf

theorem mirrors_require {fails passes : Bool} (h : fails = !passes) :
    Mirrors [(fails, code)] (require passes code) := by
  subst h
  cases passes <;> rfl

theorem mirrors_found {fails : Bool} {o : Option α} (h : fails = o.isNone) :
    Mirrors [(fails, code)] (found o code) := by
  subst h
  cases o <;> rfl

end Mirrors

theorem mirrors_callerView (s : State) (h : Holder) (selector : Byte) :
    Mirrors (viewChecks s h selector) (s.callerView h selector) := by
  refine .cons (mirrors_require rfl) fun _ _ => .cons (mirrors_require (by simp)) fun _ _ =>
    .cons (mirrors_require ?_) fun _ _ => mirrors_found rfl
  rw [← decide_not, decide_eq_decide, Nat.not_le]

theorem mirrors_liveWindow (s : State) (v : View) :
    Mirrors [(notLive (s.behind (some v)), .stale)] (s.liveWindow v.window) := by
  have h : s.behind (some v) = s.window? v.window := rfl
  rw [h]
  unfold State.liveWindow
  rcases s.window? v.window with _ | w
  · rfl
  · rcases hl : w.isLive <;> simp [Mirrors, notLive, firstFailure_cons, hl]

theorem callerView_eq_ok {h : Holder} {selector : Byte} {v : View}
    (hv : s.callerView h selector = .ok v) : s.viewAt h selector = some v := by
  simp only [State.callerView, Checks.bind_eq_ok, found_eq_ok] at hv
  obtain ⟨-, -, -, -, -, -, hv⟩ := hv
  exact hv

/-- A command refused by the manual's list of its checks is refused (R158, R175). -/
theorem refused_of_mirrors {α : Type} {c : Instr} {i : PortId} {checks : Except ResultCode α}
    {act : α → State} {l : List (Bool × ResultCode)} {code : ResultCode} (hi : (s.port i).state = .idle)
    (he : exec c s = .next (s.onIdle i (s.checked i checks act))) (hm : Mirrors l checks)
    (hl : firstFailure l = some code) : Refused c s i code := by
  rw [State.onIdle_idle hi, hm.error hl] at he
  exact refused_of_reply he

/-- A command whose list of checks fails nowhere acts. -/
theorem acts_of_mirrors {α : Type} {c : Instr} {i : PortId} {checks : Except ResultCode α}
    {act : α → State} {l : List (Bool × ResultCode)} (hi : (s.port i).state = .idle)
    (he : exec c s = .next (s.onIdle i (s.checked i checks act))) (hm : Mirrors l checks)
    (hl : firstFailure l = none) : ∃ a, checks = .ok a ∧ exec c s = .next (act a) := by
  obtain ⟨a, ha⟩ := hm.ok hl
  rw [State.onIdle_idle hi, ha] at he
  exact ⟨a, ha, he⟩

end Sys2Proof.Machine
end

section
/-! SUPPORT. RETIRE WINDOW and RENEW, whose checks are the same (R18, R79, R82).
-/

namespace Sys2Proof.Machine

variable {s : State} {i : PortId} {selector : Byte}

theorem mirrors_checkOwner (i : PortId) (selector : Byte) (s : State) :
    Mirrors (ownerChecks i selector s) (checkOwner i selector s) := by
  refine (mirrors_callerView s (s.caller i) selector).bind fun v hv => ?_
  rw [callerView_eq_ok hv]
  refine .cons (mirrors_require ?_) fun _ _ => .cons (mirrors_liveWindow s v) fun _ _ => rfl
  simp

/-- What the checks find is the view at the caller's selector and the window behind it. -/
theorem checkOwner_found {x : View × Window} {v : View} {w : Window}
    (h : checkOwner i selector s = .ok x) (hv : s.viewAt (s.caller i) selector = some v)
    (hw : s.window? v.window = some w) : x = (v, w) ∧ w.isLive = true := by
  simp only [checkOwner, Checks.bind_eq_ok, liveWindow_eq_ok, Checks.pure_eq, Except.ok.injEq] at h
  obtain ⟨v', hv', -, -, w', ⟨hw', hl⟩, rfl⟩ := h
  cases (callerView_eq_ok hv').symm.trans hv
  cases hw'.symm.trans hw
  exact ⟨rfl, hl⟩

/-- RETIRE WINDOW as the manual lists it (R82). -/
theorem retireWindow_acts {v : View} {w : Window} (hi : (s.port i).state = .idle)
    (hc : firstFailure (ownerChecks i selector s) = none)
    (hv : s.viewAt (s.caller i) selector = some v) (hw : s.window? v.window = some w) :
    ∃ t, exec (.retireWindow i selector) s = .next t
      ∧ t.answered i .ok [if w.quiet then 0x03#8 else 0x02#8]
      ∧ t.window? v.window = some (w.retired (if v.root then .owner else .forced))
      ∧ t.retire.queue = s.retire.queue ++ (if w.quiet then [v.window] else [])
      ∧ UnchangedBut (fun x => x = .window v.window ∨ x = .retireQueue ∨ x = .response i) s t := by
  obtain ⟨x, hx, he⟩ := acts_of_mirrors (c := .retireWindow i selector) hi rfl
    (mirrors_checkOwner i selector s) hc
  obtain ⟨rfl, hl⟩ := checkOwner_found hx hv hw
  rw [State.beginRetirement_live _ hw hl] at he
  refine ⟨_, he, ?_, ?_, rfl, ?_⟩
  · rcases hq : w.quiet <;> simp [State.answered, Window.retiresTo, WindowState.toByte, hq]
  · exact (s.window?_putQueued v.window v.window _ w.quiet).trans (if_pos rfl)
  · refine (unchangedBut_putQueued s v.window _ _).answer ?_ (.inr (.inr rfl))
    rintro y (h | h)
    · exact .inl h
    · exact .inr (.inl h)

theorem lifetimeOfTicks_eq (ticks : BitVec 16) :
    (if ticks = 0#16 then none else some ticks.toNat)
      = if ticks.toNat = 0 then none else some ticks.toNat := by
  have h : ticks = 0#16 ↔ ticks.toNat = 0 := by
    rw [← BitVec.toNat_inj]
    rfl
  simp only [h]

/-- RENEW as the manual lists it (R18). -/
theorem renew_acts {ticks : BitVec 16} {v : View} {w : Window} (hi : (s.port i).state = .idle)
    (hc : firstFailure (ownerChecks i selector s) = none)
    (hv : s.viewAt (s.caller i) selector = some v) (hw : s.window? v.window = some w) :
    ∃ t, exec (.renew i selector ticks) s = .next t ∧ t.answered i .ok []
      ∧ t.window? v.window
          = some { w with lifetime := if ticks.toNat = 0 then none else some ticks.toNat }
      ∧ UnchangedBut (fun x => x = .window v.window ∨ x = .response i) s t := by
  obtain ⟨x, hx, he⟩ := acts_of_mirrors (c := .renew i selector ticks) hi rfl
    (mirrors_checkOwner i selector s) hc
  obtain ⟨rfl, -⟩ := checkOwner_found hx hv hw
  rw [lifetimeOfTicks_eq] at he
  refine ⟨_, he, by simp [State.answered], s.window?_putWindow_same v.window _, ?_⟩
  exact (unchangedBut_putWindow s v.window _).answer (fun _ => .inl) (.inr rfl)

/-- Settles O22: both commands pass their checks as listed, and then act. -/
theorem ownerCommandsAct : Obligations.OwnerCommandsAct :=
  ⟨fun _ _ _ hi => ⟨fun _ => refused_of_mirrors hi rfl (mirrors_checkOwner ..),
      fun _ _ hc hv hw => retireWindow_acts hi hc hv hw⟩,
    fun _ _ _ _ hi => ⟨fun _ => refused_of_mirrors hi rfl (mirrors_checkOwner ..),
      fun _ _ hc hv hw => renew_acts hi hc hv hw⟩⟩

end Sys2Proof.Machine
end

section
/-! SUPPORT. The taking of a tick over the whole Window Table (R17, R148, R149).
-/

namespace Sys2Proof.Machine

variable {s : State}

/-- A window after a tick (R17). -/
def Window.ticked (w : Window) : Window :=
  if w.isLive = true ∧ w.lifetime = some 1 then
    ({ w with lifetime := none } : Window).retired .expired
  else if w.isLive = true then { w with lifetime := w.lifetime.map (· - 1) }
  else w

/-- A window that joins the Retire Queue at a tick (R149). -/
def Window.joinsAtTick (w : Window) : Bool := w.isLive && decide (w.lifetime = some 1) && w.quiet

theorem Window.ticked_of_not_live {w : Window} (h : w.isLive = false) : w.ticked = w := by
  simp [Window.ticked, h]

theorem Window.ticked_of_no_lifetime {w : Window} (h : w.lifetime = none) : w.ticked = w := by
  obtain ⟨⟩ := w
  cases h
  simp [Window.ticked]

/-! ### One window -/

/-- Of two entries written at one key the second stands. -/
theorem Table.put_put {α : Type} (t : Table α) (k : Nat) (v v' : α) :
    (Table.put t k v).put k v' = Table.put t k v' := by
  induction t with
  | nil => simp [Table.put]
  | cons e t ih =>
    by_cases h1 : k < e.1
    · simp [Table.put, h1]
    · by_cases h2 : e.1 = k
      · simp [Table.put, h2]
      · simp [Table.put, h1, h2, ih]

/-- A tick leaves all as it is, or it writes the window and, where that joins it, the Retire Queue. -/
theorem tickWindow_cases {k : Nat} {w : Window} (hw : s.window? k = some w) (hl : w.lifetime ≠ some 0) :
    (s.tickWindow k = s ∧ w.ticked = w ∧ w.joinsAtTick = false)
      ∨ s.tickWindow k = s.putQueued k w.ticked w.joinsAtTick := by
  unfold State.tickWindow
  simp only [hw]
  rcases hlive : w.isLive
  · exact .inl ⟨rfl, Window.ticked_of_not_live hlive, by simp [Window.joinsAtTick, hlive]⟩
  · rcases ht : w.lifetime with _ | n
    · exact .inl ⟨rfl, Window.ticked_of_no_lifetime ht, by simp [Window.joinsAtTick, ht]⟩
    · refine .inr ?_
      have hn : n ≠ 0 := fun e => hl (by rw [ht, e])
      simp only [if_true]
      split
      · obtain rfl : n = 1 := by omega
        have hlive' : ({ w with lifetime := none } : Window).isLive = true := hlive
        rw [State.beginRetirement_live _ (s.window?_putWindow_same k { w with lifetime := none }) hlive']
        simp [State.putQueued, State.putWindow, Window.ticked, Window.joinsAtTick, hlive, ht, Window.quiet,
          Table.put_put]
      · have hne : n ≠ 1 := by omega
        simp [State.putQueued, State.putWindow, Window.ticked, Window.joinsAtTick, hlive, ht, hne]

theorem window?_tickWindow {k : Nat} {w : Window} (hw : s.window? k = some w) (hl : w.lifetime ≠ some 0)
    (j : Nat) : (s.tickWindow k).window? j = if j = k then some w.ticked else s.window? j := by
  rcases tickWindow_cases hw hl with ⟨e, ht, -⟩ | e
  · rw [e, ht]
    split
    · rename_i hj
      rw [hj, hw]
    · rfl
  · rw [e, State.window?_putQueued]
    simp only [eq_comm]

theorem queue_tickWindow {k : Nat} {w : Window} (hw : s.window? k = some w) (hl : w.lifetime ≠ some 0) :
    (s.tickWindow k).retire.queue = s.retire.queue ++ if w.joinsAtTick then [k] else [] := by
  rcases tickWindow_cases hw hl with ⟨e, -, hj⟩ | e
  · rw [e, hj]
    simp
  · rw [e]
    rfl

theorem unchangedBut_tickWindow {k : Nat} {w : Window} (hw : s.window? k = some w)
    (hl : w.lifetime ≠ some 0) :
    UnchangedBut (fun x => x = .window k ∨ x = .retireQueue) s (s.tickWindow k) := by
  rcases tickWindow_cases hw hl with ⟨e, -⟩ | e
  · rw [e]
    exact .refl _ s
  · rw [e]
    exact unchangedBut_putQueued s k _ _

/-! ### Several windows -/

/-- Ticks on windows one after the other tick each of them, and those that join the Retire Queue do so in
the order given. -/
theorem tickWindows_eq {ks : List Nat} (hnd : ks.Nodup)
    (hks : ∀ k ∈ ks, ∃ w, s.window? k = some w ∧ w.lifetime ≠ some 0) :
    (∀ j, (ks.foldl State.tickWindow s).window? j
        = if j ∈ ks then (s.window? j).map Window.ticked else s.window? j)
      ∧ (ks.foldl State.tickWindow s).retire.queue
          = s.retire.queue ++ ks.filter (fun k => (s.window? k).any Window.joinsAtTick)
      ∧ UnchangedBut (fun x => (∃ k, x = .window k) ∨ x = .retireQueue) s
          (ks.foldl State.tickWindow s) := by
  induction ks generalizing s with
  | nil => exact ⟨fun j => by simp, by simp, .refl _ s⟩
  | cons k ks ih =>
    obtain ⟨hk, hnd⟩ := List.nodup_cons.1 hnd
    obtain ⟨w, hw, hl⟩ := hks k (List.mem_cons_self ..)
    have hwin := window?_tickWindow hw hl
    have hother : ∀ j ∈ ks, (s.tickWindow k).window? j = s.window? j := fun j hj => by
      rw [hwin, if_neg]
      rintro rfl
      exact hk hj
    obtain ⟨h1, h2, h3⟩ := ih hnd fun j hj => by
      rw [hother j hj]
      exact hks j (List.mem_cons_of_mem _ hj)
    refine ⟨fun j => ?_, ?_, ?_⟩
    · rw [List.foldl_cons, h1]
      by_cases hj : j ∈ ks
      · simp [hj, hother j hj]
      · by_cases hjk : j = k
        · subst hjk
          simp [hj, hwin, hw]
        · simp [hj, hjk, hwin]
    · have hfilter : ks.filter (fun j => ((s.tickWindow k).window? j).any Window.joinsAtTick)
          = ks.filter fun j => (s.window? j).any Window.joinsAtTick :=
        List.filter_congr fun j hj => by rw [hother j hj]
      rw [List.foldl_cons, h2, hfilter, queue_tickWindow hw hl, List.append_assoc, List.filter_cons, hw,
        Option.any_some]
      rcases w.joinsAtTick <;> rfl
    · refine (unchangedBut_tickWindow hw hl).trans h3 ?_ fun _ h => h
      rintro x (h | h)
      · exact .inl ⟨k, h⟩
      · exact .inr h

/-! ### The whole table -/

theorem filter_windowsWhere {t : Table Window} (h : Table.rising t = true) (p q : Window → Bool) :
    (windowsWhere t p).filter (fun k => (Table.at? t k).any q) = windowsWhere t fun w => p w && q w := by
  unfold windowsWhere
  rw [List.filter_map, List.filter_filter]
  refine congrArg _ (List.filter_congr fun e he => ?_)
  rw [Function.comp_apply, Table.at?_of_mem h he, Option.any_some, Bool.and_comm]

/-- The taking of a tick ticks every window, those that join the Retire Queue joining it in ascending order
of index (R149). -/
theorem takeTick_eq (hc : WindowsCoherent s) (hr : Table.rising s.dir.windows = true) :
    s.takeTick.events.ticks = s.events.ticks - 1
      ∧ (∀ k, s.takeTick.window? k = (s.window? k).map Window.ticked)
      ∧ s.takeTick.retire.queue = s.retire.queue ++ windowsWhere s.dir.windows Window.joinsAtTick
      ∧ UnchangedBut (fun x => (∃ k, x = .window k) ∨ x = .retireQueue ∨ x = .ticks) s s.takeTick := by
  have hmem := mem_windowsWhere hr Window.isLive
  have hnd : (windowsWhere s.dir.windows Window.isLive).Nodup :=
    (windowsWhere_ascending hr Window.isLive).imp Nat.ne_of_lt
  obtain ⟨h1, h2, h3⟩ := tickWindows_eq (s := { s with events.ticks := s.events.ticks - 1 }) hnd
    fun k hk => by
      obtain ⟨w, hw, -⟩ := (hmem k).1 hk
      obtain ⟨-, -, -, -, hl⟩ := hc k w hw
      exact ⟨w, hw, hl⟩
  refine ⟨h3 .ticks (by simp), fun k => (h1 k).trans ?_, h2.trans (congrArg _ ?_), ?_⟩
  · change (if _ then (s.window? k).map _ else s.window? k) = _
    split
    · rfl
    · rename_i hk
      rcases hw : s.window? k with _ | w
      · rfl
      · have hlive : w.isLive = false := by
          by_contra hne
          exact hk ((hmem k).2 ⟨w, hw, Bool.of_not_eq_false hne⟩)
        rw [Option.map_some, Window.ticked_of_not_live hlive]
  · refine (filter_windowsWhere hr Window.isLive Window.joinsAtTick).trans ?_
    have hjoins : (fun w : Window => w.isLive && w.joinsAtTick) = Window.joinsAtTick :=
      funext fun w => by rw [Window.joinsAtTick, ← Bool.and_assoc, ← Bool.and_assoc, Bool.and_self]
    rw [hjoins]
  · intro x hx
    refine Place.same_trans ?_ (h3 x fun h => hx (h.imp_right .inl))
    cases x
    case ticks => exact absurd (.inr (.inr rfl)) hx
    case reserves => exact ⟨rfl, rfl⟩
    all_goals exact rfl

/-- Settles O37: a tick is counted, and its taking ticks the windows of the table in order. -/
theorem ticksLowerLifetimes : Obligations.TicksLowerLifetimes := by
  unfold Obligations.TicksLowerLifetimes
  constructor
  · intro s
    refine ⟨_, rfl, rfl, rfl, fun x hx => ?_⟩
    cases x
    case ticks => exact absurd (.inl rfl) hx
    case divider => exact absurd (.inr rfl) hx
    case reserves => exact ⟨rfl, rfl⟩
    all_goals exact rfl
  · intro s hc hr ht
    obtain ⟨h1, h2, h3, h4⟩ := takeTick_eq hc hr
    refine ⟨s.takeTick, congrArg _ (if_neg ht), h1, h2, h3, fun k w hw hl he => ?_, h4⟩
    have hexp : w.expires = true := by simp [Window.expires, hl, he]
    change Host.Outcome.next (match s.window? k with
      | none => s
      | some w => if s.events.ticks ≠ 0 ∧ w.expires = true then s.takeTick else s) = _
    rw [hw]
    exact congrArg _ (if_pos ⟨ht, hexp⟩)

end Sys2Proof.Machine
end

section
/-! SUPPORT. The Retire Engine takes the head of its queue and sweeps the window's views (R87, R88).
-/

namespace Sys2Proof.Machine

variable {s : State}

/-! ### The root of a window -/

/-- An entry of the View Table is the view at a place in range (R22, R23). -/
theorem GrantTrees.view_of_entry (h : GrantTrees s) {e : Nat × View} (he : e ∈ s.dir.views) :
    ∃ v : ViewId, v.inRange ∧ v.key = e.1 ∧ s.view? v = some e.2 := by
  obtain ⟨hr, hplace, -⟩ := h
  obtain ⟨v, hv, hk⟩ := hplace e he
  exact ⟨v, hv, hk, (congrArg _ hk).trans (Table.at?_of_mem hr he)⟩

/-- The selector recorded is that of a root view of the window, or 0 where there is none (R20, R88). -/
theorem rootSelector_cases (h : GrantTrees s) (k : Nat) :
    (∃ v x, v.inRange ∧ s.view? v = some x ∧ x.window = k ∧ x.root = true
        ∧ rootSelector s.dir.views k = v.selector)
      ∨ (∀ v x, s.view? v = some x → x.window = k → x.root = false)
        ∧ rootSelector s.dir.views k = 0 := by
  unfold rootSelector
  rcases hf : s.dir.views.find? fun e => decide (e.2.window = k) && e.2.root with _ | e
  · refine .inr ⟨fun v x hx hk => ?_, by rw [hf]; rfl⟩
    have := List.find?_eq_none.1 hf _ (Table.mem_of_at? hx)
    simpa [hk] using this
  · have hp := List.find?_some hf
    simp only [Bool.and_eq_true, decide_eq_true_eq] at hp
    obtain ⟨v, hv, hkey, hx⟩ := h.view_of_entry (List.mem_of_find?_eq_some hf)
    refine .inl ⟨v, e.2, hv, hx, hp.1, hp.2, ?_⟩
    have hlt := Nat.lt_of_le_of_lt hv.2 v.holder.selectorRange_lt
    rw [hf, Option.map_some, Option.getD_some, ← hkey]
    simp only [ViewId.key]
    omega

/-! ### The head of the Retire Queue -/

theorem exec_retireTakeHead {k : Nat} {rest : List Nat} {w : Window} {cause : RetireCause}
    (hs : s.retire.state = .idle) (hq : s.retire.queue = k :: rest) (hw : s.window? k = some w)
    (hc : w.cause = some cause) :
    exec .retireTakeHead s = .next { s.putWindow k { w with state := .clearing } with
      retire.queue := rest, retire.state := .sweeping (w.retireRecord k cause) } := by
  have h : s.retireHead = some (k, w, cause, rest) := by
    simp [State.retireHead, hs, hq, hw, hc]
  change Host.Outcome.next (match s.retireHead with
    | none => s
    | some (i, w, c, rest) => { s.putWindow i { w with state := .clearing } with
        retire.queue := rest, retire.state := .sweeping (w.retireRecord i c) }) = _
  rw [h]

/-! ### The sweep -/

/-- The walk of a window meets each of its views, and no other (R66, R88). -/
theorem mem_windowWalk {views : Table View} (h : Table.rising views = true) (k j : Nat) :
    j ∈ windowWalk views k ↔ ∃ x, Table.at? views j = some x ∧ x.window = k := by
  have hnamed : j ∈ (views.filter fun e => decide (e.2.window = k)).map Prod.fst
      ↔ ∃ x, Table.at? views j = some x ∧ x.window = k := by
    constructor
    · intro hj
      obtain ⟨e, he, rfl⟩ := List.mem_map.1 hj
      obtain ⟨hm, hp⟩ := List.mem_filter.1 he
      exact ⟨e.2, Table.at?_of_mem h hm, of_decide_eq_true hp⟩
    · rintro ⟨x, hx, hk⟩
      exact List.mem_map.2 ⟨(j, x), List.mem_filter.2 ⟨Table.mem_of_at? hx, decide_eq_true hk⟩, rfl⟩
  rw [← hnamed]
  unfold windowWalk
  simp only [List.mem_append, List.mem_filter, List.contains_iff_mem, Bool.not_eq_eq_eq_not, Bool.not_true]
  constructor
  · rintro (⟨-, hj⟩ | ⟨hj, -⟩) <;> exact hj
  · intro hj
    by_cases hw : j ∈ (((views.filter fun e => decide (e.2.window = k)).filter fun e => e.2.root).map
        Prod.fst).flatMap (subtree views)
    · exact .inl ⟨hw, hj⟩
    · refine .inr ⟨hj, ?_⟩
      rw [Bool.eq_false_iff, Ne, List.contains_iff_mem, List.mem_filter]
      exact fun h => hw h.1

/-- After the sweep no view of the window is VALID, and every other view is as it was (R88). -/
theorem at?_swept {views : Table View} (h : Table.rising views = true) (k j : Nat) :
    Table.at? (voidKeys views (windowWalk views k)) j
      = (Table.at? views j).bind fun x => if x.window = k then none else some x := by
  rw [at?_voidKeys]
  simp only [mem_windowWalk h]
  rcases hx : Table.at? views j with _ | x
  · simp
  · simp only [Option.some.injEq, exists_eq_left', Option.bind_some]

theorem unchangedBut_views (s : State) (views : Table View) :
    UnchangedBut (fun x => ∃ j, x = .view j) s { s with dir.views := views } := by
  intro x hx
  cases x
  case view j => exact absurd ⟨j, rfl⟩ hx
  case reserves => exact ⟨rfl, rfl⟩
  all_goals exact rfl

theorem unchangedBut_requestScrub (s : State) (r : RetireRecord) :
    UnchangedBut (fun x => x = .page r.page ∨ x = .retireState) s (s.requestScrub r) := by
  intro x hx
  cases x
  case page p =>
    have hne : p ≠ r.page := fun e => hx (.inl (by rw [e]))
    exact (s.page_setPage r.page p .scrubbing).trans (if_neg hne)
  case retireState => exact absurd (.inr rfl) hx
  case reserves => exact ⟨rfl, rfl⟩
  all_goals exact rfl

/-- The sweep as the manual lists it (R88, R89). -/
theorem sweep_acts {r : RetireRecord} {w : Window} (hs : s.retire.state = .sweeping r)
    (hw : s.window? r.window = some w) (hr : Table.rising s.dir.views = true) :
    ∃ t, exec .sweep s = .next t
      ∧ (∀ j, Table.at? t.dir.views j
          = (Table.at? s.dir.views j).bind fun x => if x.window = r.window then none else some x)
      ∧ Posted s t ((windowWalk s.dir.views r.window).map fun j =>
          Notice.viewVoided (ViewId.ofKey j) .retired)
      ∧ t.retire.state
          = .scrubbing
              { r with rootSelector := rootSelector s.dir.views r.window, damaged := w.damaged }
              .requested
      ∧ t.page r.page = .scrubbing
      ∧ UnchangedBut (fun x => x.isNotice ∨ (∃ j, x = .view j) ∨ x = .page r.page
          ∨ x = .retireState) s t := by
  have he : exec .sweep s = .next (State.requestScrub
      (({ s with dir.views := voidKeys s.dir.views (windowWalk s.dir.views r.window) } : State).postAll
        ((windowWalk s.dir.views r.window).map fun j => Notice.viewVoided (ViewId.ofKey j) .retired))
      { r with
        rootSelector := rootSelector s.dir.views r.window
        damaged := w.damaged }) := by
    change execSweep s = _
    simp only [execSweep, hs, hw, Option.map_some, Option.getD_some]
  refine ⟨_, he, at?_swept hr r.window, fun _ => ⟨rfl, rfl⟩, rfl,
    (State.page_setPage _ r.page r.page .scrubbing).trans (if_pos rfl), ?_⟩
  refine ((unchangedBut_views s _).trans (unchangedBut_postAll _ _)
    (r := fun x => x.isNotice ∨ ∃ j, x = .view j) (fun _ => .inr) fun _ => .inl).trans
    (unchangedBut_requestScrub _ _) ?_ ?_
  · exact fun x h => h.imp_right .inl
  · exact fun x h => .inr (.inr h)

/-- Settles O45: the root selector is that of the one root view, the head is taken, and the window swept. -/
theorem retireTakenAndSwept : Obligations.RetireTakenAndSwept := by
  unfold Obligations.RetireTakenAndSwept
  refine ⟨fun s k hg => ?_, fun s k rest w cause hs hq hw hc => ?_, fun s r w => sweep_acts⟩
  · rcases rootSelector_cases hg k with ⟨u, y, hu, hy, hyk, hyr, e⟩ | ⟨hnone, e⟩
    · exact ⟨fun v x _ _ _ _ huniq => e.trans (by rw [huniq u y hu hy hyk hyr]),
        fun hall => absurd ((hall u y hu hy hyk).symm.trans hyr) Bool.false_ne_true⟩
    · exact ⟨fun v x _ hx hk hroot => absurd ((hnone v x hx hk).symm.trans hroot) Bool.false_ne_true,
        fun _ => e⟩
  · refine ⟨_, exec_retireTakeHead hs hq hw hc, rfl, s.window?_putWindow_same k _, rfl, fun x hx => ?_⟩
    have hput := unchangedBut_putWindow s k { w with state := .clearing } x fun e => hx (.inl e)
    cases x
    case retireQueue => exact absurd (.inr (.inl rfl)) hx
    case retireState => exact absurd (.inr (.inr rfl)) hx
    all_goals exact hput

end Sys2Proof.Machine
end

section
/-! SUPPORT. OPEN WINDOW: its arguments, its checks and the window that it opens (R12, R13, R15, R16, R108).
-/

namespace Sys2Proof.Machine

variable {s : State} {i : PortId} {a : OpenParams}

/-! ### The arguments -/

/-- The request that arguments in range ask for (R12). -/
def openAsked (a : OpenParams) : OpenRequest where
  cls := if a.cls = 0x01#8 then .guarded else .common
  unit := a.unit.toNat
  length0 := a.length0.toNat
  length1 := if a.bankCount = 0x02#8 then some a.length1.toNat else none
  lifetime := if a.lifetime = 0#16 then none else some a.lifetime.toNat
  binding := if a.line = 0xFF#8 then none
    else some ⟨a.line.toNat, if a.action = 0x01#8 then .swap else .retire⟩

/-- A check made of two that refuse alike. -/
theorem Mirrors.or {α β : Type} {b c : Bool} {code : ResultCode} {x : Except ResultCode α}
    {f : α → Except ResultCode β} (hx : Mirrors [(b, code)] x)
    (hf : ∀ a, x = .ok a → Mirrors [(c, code)] (f a)) : Mirrors [(b || c, code)] (x >>= f) := by
  have h : Mirrors ([(b, code)] ++ [(c, code)]) (x >>= f) := hx.bind hf
  have e : firstFailure [(b || c, code)] = firstFailure ([(b, code)] ++ [(c, code)]) := by
    cases b <;> rfl
  unfold Mirrors at h ⊢
  rw [e]
  exact h

theorem classOfByte_isNone (b : Byte) :
    (WindowClass.ofByte? b).isNone = !([0x00#8, 0x01#8].contains b) := by
  by_cases h0 : b = 0x00#8
  · simp [WindowClass.ofByte?, h0]
  · by_cases h1 : b = 0x01#8 <;> simp [WindowClass.ofByte?, h0, h1]

theorem classOfByte_eq_some {b : Byte} {x : WindowClass} (h : WindowClass.ofByte? b = some x) :
    (if b = 0x01#8 then WindowClass.guarded else .common) = x := by
  unfold WindowClass.ofByte? at h
  split at h
  · rename_i h0
    cases h
    simp [h0]
  · split at h
    · rename_i h1
      cases h
      exact if_pos h1
    · cases h

theorem unitOfByte_isNone (b : Byte) :
    (unitOfByte? b).isNone = !([0x01#8, 0x04#8, 0x10#8].contains b) := by
  by_cases h0 : b = 0x01#8
  · simp [unitOfByte?, h0]
  · by_cases h1 : b = 0x04#8
    · simp [unitOfByte?, h1]
    · by_cases h2 : b = 0x10#8 <;> simp [unitOfByte?, h0, h1, h2]

theorem unitOfByte_eq_some {b : Byte} {u : Nat} (h : unitOfByte? b = some u) : u = b.toNat := by
  unfold unitOfByte? at h
  split at h
  · rename_i hb
    cases h
    rw [hb]
    rfl
  · split at h
    · rename_i hb
      cases h
      rw [hb]
      rfl
    · split at h
      · rename_i hb
        cases h
        rw [hb]
        rfl
      · cases h

theorem actionOfByte_isNone (b : Byte) :
    (BindingAction.ofByte? b).isNone = !([0x00#8, 0x01#8].contains b) := by
  by_cases h0 : b = 0x00#8
  · simp [BindingAction.ofByte?, h0]
  · by_cases h1 : b = 0x01#8 <;> simp [BindingAction.ofByte?, h0, h1]

theorem actionOfByte_eq_some {b : Byte} {x : BindingAction} (h : BindingAction.ofByte? b = some x) :
    (if b = 0x01#8 then BindingAction.swap else .retire) = x := by
  unfold BindingAction.ofByte? at h
  split at h
  · rename_i h0
    cases h
    simp [h0]
  · split at h
    · rename_i h1
      cases h
      exact if_pos h1
    · cases h

theorem lengthOutOfRange_eq (length : BitVec 24) (unit : Byte) :
    lengthOutOfRange length unit = !lengthInRange length.toNat unit.toNat := by
  unfold lengthOutOfRange lengthInRange
  have h0 : decide (1 ≤ length.toNat) = !decide (length.toNat = 0) := by
    rw [← decide_not, decide_eq_decide]
    exact Nat.pos_iff_ne_zero
  have h1 : decide (length.toNat ≤ 65536) = !decide (65536 < length.toNat) := by
    rw [← decide_not, decide_eq_decide, Nat.not_lt]
  rw [h0, h1, Bool.not_and, Bool.not_and, Bool.not_not, Bool.not_not]

/-- The length of bank 1 is refused where the bank count or, of a two-bank window, the length is out of
range (R13 check 3). -/
theorem mirrors_parseLength1 (a : OpenParams) :
    Mirrors [(!([0x01#8, 0x02#8].contains a.bankCount)
        || (decide (a.bankCount = 0x02#8) && lengthOutOfRange a.length1 a.unit), .badArg)]
      (parseLength1 a.bankCount a.length1.toNat a.unit.toNat) := by
  unfold parseLength1
  split
  · rename_i h
    rw [h]
    rfl
  · rename_i h1
    split
    · rename_i h
      rw [h, lengthOutOfRange_eq]
      refine .cons (mirrors_require ?_) fun _ _ => rfl
      simp
    · rename_i h2
      simp [Mirrors, firstFailure_cons, h1, h2]

theorem parseLength1_ok {n : Option Nat}
    (h : parseLength1 a.bankCount a.length1.toNat a.unit.toNat = .ok n) :
    (a.bankCount = 0x01#8 ∨ a.bankCount = 0x02#8) ∧ (openAsked a).length1 = n := by
  unfold parseLength1 at h
  split at h
  · rename_i hb
    cases h
    exact ⟨.inl hb, by simp [openAsked, hb]⟩
  · split at h
    · rename_i hb
      simp only [Checks.bind_eq_ok, Checks.pure_eq, Except.ok.injEq] at h
      obtain ⟨-, -, rfl⟩ := h
      exact ⟨.inr hb, by simp [openAsked, hb]⟩
    · cases h

theorem mirrors_parseBinding (x : Policy) (a : OpenParams) :
    Mirrors [(decide (a.line ≠ 0xFF#8) && (decide (8 ≤ a.line.toNat) || !([0x00#8, 0x01#8].contains a.action)
        || !decide ((x.line a.line.toNat).role = .bindable)), .badArg)]
      (parseBinding x a.line a.action) := by
  unfold parseBinding
  split
  · rename_i h
    simp [Mirrors, firstFailure_cons, h]
  · rename_i h
    rw [decide_eq_true h, Bool.true_and, Bool.or_assoc]
    refine .or (mirrors_require ?_) fun _ _ => .or (mirrors_found (actionOfByte_isNone _).symm) fun _ _ =>
      .cons (mirrors_require rfl) fun _ _ => rfl
    rw [← decide_not, decide_eq_decide, Nat.not_lt]

theorem parseBinding_ok {x : Policy} {b : Option Binding} (h : parseBinding x a.line a.action = .ok b) :
    (openAsked a).binding = b := by
  unfold parseBinding at h
  split at h
  · rename_i hl
    cases h
    simp [openAsked, hl]
  · rename_i hl
    simp only [Checks.bind_eq_ok, found_eq_ok, Checks.pure_eq, Except.ok.injEq] at h
    obtain ⟨-, -, y, hy, -, -, rfl⟩ := h
    simp only [openAsked, if_neg hl, actionOfByte_eq_some hy]

/-- Check 3 of OPEN WINDOW refuses as the manual lists it (R13). -/
theorem mirrors_parseOpen (x : Policy) (a : OpenParams) :
    Mirrors [(openArgsOutOfRange x a, .badArg)] (parseOpen x a) := by
  have h : openArgsOutOfRange x a = (!([0x00#8, 0x01#8].contains a.cls)
      || (!([0x01#8, 0x04#8, 0x10#8].contains a.unit) || (lengthOutOfRange a.length0 a.unit
      || ((!([0x01#8, 0x02#8].contains a.bankCount)
          || (decide (a.bankCount = 0x02#8) && lengthOutOfRange a.length1 a.unit))
      || ((decide (a.line ≠ 0xFF#8) && (decide (8 ≤ a.line.toNat)
          || !([0x00#8, 0x01#8].contains a.action) || !decide ((x.line a.line.toNat).role = .bindable)))
      || (decide (a.line ≠ 0xFF#8) && (decide (a.action = 0x01#8) && decide (a.bankCount = 0x01#8)))))))) := by
    unfold openArgsOutOfRange
    rw [Bool.and_or_distrib_left (decide (a.line ≠ 0xFF#8)) (_ || _ || _)]
    ac_rfl
  rw [h]
  refine .or (mirrors_found (classOfByte_isNone _).symm) fun cls hc =>
    .or (mirrors_found (unitOfByte_isNone _).symm) fun unit hu => ?_
  obtain rfl := unitOfByte_eq_some (found_eq_ok.1 hu)
  refine .or (mirrors_require (lengthOutOfRange_eq ..)) fun _ _ => .or (mirrors_parseLength1 a) fun n hn =>
    .or (mirrors_parseBinding x a) fun b hb => .cons (mirrors_require ?_) fun _ _ => rfl
  obtain ⟨hcount, rfl⟩ := parseLength1_ok hn
  rw [← parseBinding_ok hb, Bool.not_not]
  by_cases hl : a.line = 0xFF#8
  · simp [openAsked, hl]
  · rcases hcount with e | e <;> by_cases ha : a.action = 0x01#8 <;> simp [openAsked, hl, e, ha]

theorem parseOpen_asked {x : Policy} {r : OpenRequest} (h : parseOpen x a = .ok r) : r = openAsked a := by
  simp only [parseOpen, Checks.bind_eq_ok, found_eq_ok, Checks.pure_eq, Except.ok.injEq] at h
  obtain ⟨cls, hc, unit, hu, -, -, n, hn, b, hb, -, -, rfl⟩ := h
  obtain rfl := unitOfByte_eq_some hu
  obtain ⟨-, rfl⟩ := parseLength1_ok hn
  rw [← parseBinding_ok hb, ← classOfByte_eq_some hc]
  rfl

theorem asked_length1 (a : OpenParams) :
    (openAsked a).length1 = if a.bankCount = 0x02#8 then some a.length1.toNat else none := rfl

theorem asked_pages0 (a : OpenParams) : pagesOf (openAsked a).length0 = openPages0 a := rfl

theorem asked_pages1 (a : OpenParams) : (openAsked a).length1.map pagesOf = openPages1 a := by
  rw [asked_length1]
  unfold openPages1
  split <;> rfl

theorem asked_pages (a : OpenParams) : (openAsked a).pages = openPages0 a + (openPages1 a).getD 0 := by
  rw [← asked_pages1]
  rfl

theorem asked_guarded (a : OpenParams) : decide ((openAsked a).cls = .guarded) = decide (a.cls = 0x01#8) := by
  unfold openAsked
  split <;> rename_i h <;> simp [h]

/-! ### The lowest free entry and selector -/

/-- None of the numbers from 1 to `n` is found where all are taken. -/
theorem find?_from_one_isNone (n : Nat) (p : Nat → Bool) :
    (((List.range n).map (· + 1)).find? p).isNone = (List.range n).all fun j => !p (j + 1) := by
  rw [List.find?_map, Option.isNone_map, Bool.eq_iff_iff, Option.isNone_iff_eq_none, List.find?_eq_none,
    List.all_eq_true]
  simp

/-- The number found from 1 on is the lowest that is free. -/
theorem find?_from_one_eq {n k j : Nat} {p : Nat → Bool}
    (h : ((List.range n).map (· + 1)).find? p = some k) (hj : 1 ≤ j) (hp : p j = true)
    (hlow : ∀ m, 1 ≤ m → m < j → p m = false) : k = j := by
  rw [List.find?_map] at h
  obtain ⟨m, hm, rfl⟩ := Option.map_eq_some_iff.1 h
  obtain ⟨hpm, -, hbelow⟩ := List.find?_range_eq_some.1 hm
  rcases Nat.lt_trichotomy (m + 1) j with hlt | he | hgt
  · exact absurd (hpm.symm.trans (hlow (m + 1) (by omega) hlt)) Bool.noConfusion
  · exact he
  · have := hbelow (j - 1) (by omega)
    rw [Function.comp_apply, Nat.sub_add_cancel hj, hp] at this
    cases this

theorem freeSelector_eq {h : Holder} {n n' : Nat} (hf : s.freeSelector h = some n') (h1 : 1 ≤ n)
    (hn : s.view? ⟨h, n⟩ = none)
    (hlow : ∀ j, 1 ≤ j → j < n → (s.view? ⟨h, j⟩).isSome = true) : n' = n :=
  find?_from_one_eq hf h1 (by rw [hn]; rfl) fun m hm hlt => by
    rw [← Option.not_isSome, hlow m hm hlt]
    rfl

theorem freeWindow_eq {k k' : Nat} (hf : s.freeWindow = some k') (h1 : 1 ≤ k) (hk : s.window? k = none)
    (hlow : ∀ j, 1 ≤ j → j < k → (s.window? j).isSome = true) : k' = k :=
  find?_from_one_eq hf h1 (by rw [hk]; rfl) fun m hm hlt => by
    rw [← Option.not_isSome, hlow m hm hlt]
    rfl

/-! ### The checks -/

theorem not_decide_lt (m n : Nat) : decide (m ≤ n) = !decide (n < m) := by
  rw [← decide_not, decide_eq_decide, Nat.not_lt]

/-- OPEN WINDOW refuses as the manual lists it (R13). -/
theorem mirrors_checkOpenWindow (i : PortId) (a : OpenParams) (s : State) :
    Mirrors (openChecks i a s) (checkOpenWindow i a s) := by
  refine .cons (mirrors_require rfl) fun _ _ => .cons (mirrors_require rfl) fun _ _ =>
    .cons (mirrors_parseOpen s.policy a) fun r hr => ?_
  obtain rfl := parseOpen_asked hr
  rw [asked_guarded, asked_pages0, asked_pages1, asked_pages]
  refine .cons (mirrors_require (Bool.not_not _).symm) fun _ _ =>
    .cons (mirrors_require (Bool.not_not _).symm) fun _ _ => .cons (mirrors_found ?_) fun n _ =>
    .cons (mirrors_found ?_) fun k _ => .cons (mirrors_require (not_decide_lt _ _)) fun _ _ =>
    .cons (mirrors_require ?_) fun _ _ => .cons (mirrors_found rfl) fun _ _ => rfl
  · rw [State.freeSelector, find?_from_one_isNone]
    simp
  · rw [State.freeWindow, find?_from_one_isNone]
    simp [Config.windowTotal]
  · rw [not_decide_lt, Bool.not_not, Nat.add_assoc]

/-- What the checks find (R13, R108). -/
theorem checkOpenWindow_found {x : OpenTicket} (h : checkOpenWindow i a s = .ok x) :
    x.owner = s.caller i ∧ x.request = openAsked a ∧ s.freeSelector (s.caller i) = some x.selector
      ∧ s.freeWindow = some x.index
      ∧ s.place (s.caller i) (openPages0 a) (openPages1 a) = some (x.first0, x.first1) := by
  simp only [checkOpenWindow, Checks.bind_eq_ok, found_eq_ok, Checks.pure_eq, Except.ok.injEq] at h
  obtain ⟨-, -, -, -, r, hr, -, -, -, -, n, hn, k, hk, -, -, -, -, place, hp, rfl⟩ := h
  obtain rfl := parseOpen_asked hr
  rw [asked_pages0, asked_pages1] at hp
  exact ⟨rfl, rfl, hn, hk, hp⟩

/-! ### The window opened -/

theorem unchangedBut_pages (s : State) (pages : Table PageState) :
    UnchangedBut (fun x => ∃ p, x = .page p) s { s with alloc.pages := pages } := by
  intro x hx
  cases x
  case page p => exact absurd ⟨p, rfl⟩ hx
  case reserves => exact ⟨rfl, rfl⟩
  all_goals exact rfl

/-- The opening changes the entry, the root view, the pages and the owner's counter alone (R16, R108). -/
theorem unchangedBut_openWindow (s : State) (x : OpenTicket) :
    UnchangedBut (fun y => y = .window x.index ∨ y = .view (ViewId.key ⟨x.owner, x.selector⟩)
      ∨ (∃ p, y = .page p) ∨ y = .counter x.owner) s (s.openWindow x) := by
  refine ((((unchangedBut_setCounter s x.owner _).trans (unchangedBut_pages _ _)
    (r := fun y => (∃ p, y = .page p) ∨ y = .counter x.owner) (fun _ => .inr) fun _ => .inl).trans
    (unchangedBut_putWindow _ x.index x.window)
    (r := fun y => y = .window x.index ∨ (∃ p, y = .page p) ∨ y = .counter x.owner)
    (fun _ => .inr) fun _ => .inl).trans (unchangedBut_putView _ ⟨x.owner, x.selector⟩ x.root) ?_ ?_)
  · exact fun y h => h.imp_right .inr
  · exact fun y h => .inr (.inl h)

/-- The owner is charged with the window and its pages (R110). -/
theorem State.counter_openWindow (s : State) (x : OpenTicket) :
    (s.openWindow x).counter x.owner
      = ⟨(s.counter x.owner).windows + 1, (s.counter x.owner).pages + x.request.pages⟩ :=
  (s.counter_setCounter x.owner x.owner
    ⟨(s.counter x.owner).windows + 1, (s.counter x.owner).pages + x.request.pages⟩).trans (if_pos rfl)

theorem asked_bank1 (a : OpenParams) (f1 : Option Nat) :
    ((openAsked a).length1.bind fun n => f1.map fun f => (⟨f, pagesOf n, n⟩ : Bank))
      = (openPages1 a).bind fun c => f1.map fun f => ⟨f, c, a.length1.toNat⟩ := by
  rw [asked_length1]
  unfold openPages1
  split <;> rfl

theorem asked_twoBanks (a : OpenParams) :
    (openAsked a).length1.isSome = decide (a.bankCount = 0x02#8) := by
  rw [asked_length1]
  split <;> rename_i h <;> simp [h]

/-- The pages after the opening, by the places of the two banks (R108). -/
theorem page_opened {x : OpenTicket} {f1 : Option Nat} {c1 : Option Nat} {length : Nat}
    (hb : x.window.bank1 = c1.bind fun c => f1.map fun f => ⟨f, c, length⟩) (h1 : f1.isSome = c1.isSome)
    (p : Nat) : (s.openWindow x).page p
      = if (f1.any fun f => decide (f ≤ p ∧ p < f + c1.getD 0)) = true then .allocated x.index .one
        else if x.first0 ≤ p ∧ p < x.first0 + pagesOf x.request.length0 then .allocated x.index .zero
        else s.page p := by
  obtain ⟨hin, hout⟩ := s.page_openWindow x p
  rw [hb] at hin hout
  rcases c1 with _ | c <;> rcases f1 with _ | f
  · exact hout fun b e => nomatch e
  · cases h1
  · cases h1
  · simp only [Option.bind_some, Option.map_some, Option.some.injEq, forall_eq'] at hin hout
    simp only [Option.any_some, Option.getD_some, decide_eq_true_eq]
    split
    · rename_i h
      exact hin h
    · rename_i h
      exact hout h

/-- Settles O21: the checks are those of the list, and the window opened is the one that R16 lists. -/
theorem openWindowOpens : Obligations.OpenWindowOpens := by
  unfold Obligations.OpenWindowOpens
  refine ⟨fun i a s code hi => refused_of_mirrors hi rfl (mirrors_checkOpenWindow i a s),
    fun i a s k n f0 f1 h hi hc hh hk1 hk hklow hn1 hn hnlow hp => ?_⟩
  subst hh
  obtain ⟨x, hx, he⟩ := acts_of_mirrors (c := .openWindow i a) hi rfl (mirrors_checkOpenWindow i a s) hc
  have hb1 := OpenTicket.bank1_isSome hx
  obtain ⟨ho, hr, hsel, hidx, hpl⟩ := checkOpenWindow_found hx
  obtain rfl := freeSelector_eq hsel hn1 hn hnlow
  obtain rfl := freeWindow_eq hidx hk1 hk hklow
  have h1 := place_bank1 hp
  obtain ⟨rfl, rfl⟩ := Prod.mk.inj (Option.some.inj (hpl.symm.trans hp))
  have hbank : x.window.bank1
      = (openPages1 a).bind fun c => x.first1.map fun f => ⟨f, c, a.length1.toNat⟩ := by
    rw [← asked_bank1, ← hr]
    rfl
  refine ⟨_, he, by simp [State.answered], ?_, ?_, fun p => ?_, ?_, ?_⟩
  · refine ((s.window?_openWindow x x.index).trans (if_pos rfl)).trans (congrArg some ?_)
    rw [← hbank]
    simp only [OpenTicket.window, ho, hr]
    rfl
  · refine (State.view?_putView _ ⟨x.owner, x.selector⟩ ⟨s.caller i, x.selector⟩ x.root).trans
      ((if_pos (by rw [ho])).trans ?_)
    rw [← asked_twoBanks, ← hr, ← hb1]
    rfl
  · exact (page_opened hbank h1 p).trans (by rw [hr]; rfl)
  · have hcounter := s.counter_openWindow x
    rw [ho, hr, asked_pages, ← Nat.add_assoc] at hcounter
    exact hcounter
  · refine (ho ▸ unchangedBut_openWindow s x).answer ?_ (.inr (.inr (.inr (.inr rfl))))
    exact fun y h => h.imp_right fun h => h.imp_right fun h => h.imp_right .inl

end Sys2Proof.Machine
end

section
/-! SUPPORT. The grant trees by the keys of the View Table (R23, R25): what a parent field leads to, the
views below a view, and the walks over them (R37, R66).
-/

namespace Sys2Proof.Machine

variable {views : Table View} {s : State}

/-! ### The shape of the trees -/

/-- The view of key `b` is the parent of that of key `a` (R23). -/
def ParentStep (views : Table View) (a b : Nat) : Prop :=
  ((Table.at? views a).bind View.parent).map ViewId.key = some b

/-- The view of key `k` is that of key `j`, or is reached from it by parent fields. -/
def Below (views : Table View) : Nat → Nat → Prop := Relation.ReflTransGen (ParentStep views)

/-- What R22, R23 and R25 say of one view by the table it stands in. -/
structure View.Sound (views : Table View) (x : View) : Prop where
  rights : x.rights.isEmpty = false
  root : x.root = true → x.parent = none ∧ x.depth = 0
  child : x.root = false → ∃ p q, x.parent = some p ∧ p.inRange ∧ Table.at? views p.key = some q
    ∧ q.window = x.window ∧ x.rights.subset q.rights = true ∧ x.depth = q.depth + 1 ∧ x.depth ≤ 3

/-- The shape of the grant trees, said of the View Table by its keys. -/
structure GrantTable (views : Table View) : Prop where
  rising : Table.rising views = true
  place : ∀ {k x}, Table.at? views k = some x → ∃ v : ViewId, v.inRange ∧ v.key = k
  sound : ∀ {k x}, Table.at? views k = some x → x.Sound views

theorem ViewId.inRange.selector_lt {v : ViewId} (h : v.inRange) : v.selector < 32 :=
  Nat.lt_of_le_of_lt h.2 v.holder.selectorRange_lt

/-- The invariant of the statements is the shape of the table. -/
theorem grantTrees_iff : GrantTrees s ↔ GrantTable s.dir.views := by
  constructor
  · intro h
    have hplace {k x} (hx : Table.at? s.dir.views k = some x) :
        ∃ v : ViewId, v.inRange ∧ v.key = k ∧ s.view? v = some x :=
      h.view_of_entry (Table.mem_of_at? hx)
    obtain ⟨hr, -, hsound⟩ := h
    refine ⟨hr, fun hx => ?_, fun hx => ?_⟩
    · obtain ⟨v, hv, hk, -⟩ := hplace hx
      exact ⟨v, hv, hk⟩
    · obtain ⟨v, hv, -, hvx⟩ := hplace hx
      obtain ⟨h1, h2, h3⟩ := hsound v _ hv hvx
      exact ⟨h1, h2, h3⟩
  · rintro ⟨hr, hplace, hsound⟩
    refine ⟨hr, fun e he => hplace (Table.at?_of_mem hr he), fun v x _ hx => ?_⟩
    obtain ⟨h1, h2, h3⟩ := hsound hx
    exact ⟨h1, h2, h3⟩

theorem GrantTable.depth_le (h : GrantTable views) {k : Nat} {x : View}
    (hx : Table.at? views k = some x) : x.depth ≤ 3 := by
  have hs := h.sound hx
  rcases hr : x.root
  · obtain ⟨_, _, -, -, -, -, -, -, hd⟩ := hs.child hr
    exact hd
  · simp [(hs.root hr).2]

/-- A root has no parent (R25). -/
theorem GrantTable.no_parent (h : GrantTable views) {k b : Nat} {x : View}
    (hx : Table.at? views k = some x) (hr : x.root = true) : ¬ParentStep views k b := by
  simp [ParentStep, hx, ((h.sound hx).root hr).1]

/-- A view with a parent stands one level below it, in its window, with some of its rights (R25). -/
theorem GrantTable.parent (h : GrantTable views) {a b : Nat} (hp : ParentStep views a b) :
    ∃ x y, Table.at? views a = some x ∧ Table.at? views b = some y ∧ y.window = x.window
      ∧ x.rights.subset y.rights = true ∧ x.depth = y.depth + 1 := by
  obtain ⟨p, hp', rfl⟩ := Option.map_eq_some_iff.1 hp
  obtain ⟨x, hx, hxp⟩ := Option.bind_eq_some_iff.1 hp'
  rcases hr : x.root
  · obtain ⟨p', y, hp', -, hy, hw, hs, hd, -⟩ := (h.sound hx).child hr
    cases hxp.symm.trans hp'
    exact ⟨x, y, hx, hy, hw, hs, hd⟩
  · exact absurd hp (h.no_parent hx hr)

theorem GrantTable.exists_parent (h : GrantTable views) {a : Nat} {x : View}
    (hx : Table.at? views a = some x) (hr : x.root = false) : ∃ b, ParentStep views a b := by
  obtain ⟨p, -, hp, -⟩ := (h.sound hx).child hr
  exact ⟨p.key, by simp [ParentStep, hx, hp]⟩

theorem Rights.subset_iff {r q : Rights} : r.subset q = true
    ↔ (r.read = true → q.read = true) ∧ (r.write = true → q.write = true)
      ∧ (r.grant = true → q.grant = true) ∧ (r.swap = true → q.swap = true) := by
  obtain ⟨a, b, c, d⟩ := r
  cases a <;> cases b <;> cases c <;> cases d <;> simp [Rights.subset, and_assoc]

theorem Rights.subset_refl (r : Rights) : r.subset r = true :=
  Rights.subset_iff.2 ⟨id, id, id, id⟩

theorem Rights.subset_trans {r q p : Rights} (h : r.subset q = true) (g : q.subset p = true) :
    r.subset p = true := by
  obtain ⟨h1, h2, h3, h4⟩ := Rights.subset_iff.1 h
  obtain ⟨g1, g2, g3, g4⟩ := Rights.subset_iff.1 g
  exact Rights.subset_iff.2 ⟨g1 ∘ h1, g2 ∘ h2, g3 ∘ h3, g4 ∘ h4⟩

/-- What stands above a view has its window and all its rights, and is nearer to the root (R25). -/
theorem GrantTable.above (h : GrantTable views) {j k : Nat} {x : View} (hb : Below views j k)
    (hx : Table.at? views j = some x) :
    ∃ y, Table.at? views k = some y ∧ y.window = x.window ∧ x.rights.subset y.rights = true
      ∧ y.depth ≤ x.depth ∧ (x.depth ≤ y.depth → j = k) := by
  induction hb with
  | refl => exact ⟨x, hx, rfl, Rights.subset_refl _, le_rfl, fun _ => rfl⟩
  | tail _ hs ih =>
    obtain ⟨y, hy, hw, hr, hd, -⟩ := ih
    obtain ⟨y', z, hy', hz, hw', hr', hd'⟩ := h.parent hs
    cases hy.symm.trans hy'
    exact ⟨z, hz, hw'.trans hw, Rights.subset_trans hr hr', by omega, fun _ => by omega⟩

/-- What stands below a VALID view is VALID. -/
theorem GrantTable.listed (h : GrantTable views) {j k : Nat} {y : View} (hb : Below views j k)
    (hy : Table.at? views k = some y) : ∃ x, Table.at? views j = some x := by
  rcases Relation.ReflTransGen.cases_head hb with rfl | ⟨b, hs, -⟩
  · exact ⟨y, hy⟩
  · obtain ⟨x, -, hx, -⟩ := h.parent hs
    exact ⟨x, hx⟩

/-- Nothing stands above a root. -/
theorem GrantTable.eq_of_below_root (h : GrantTable views) {j k : Nat} {x : View}
    (hb : Below views j k) (hx : Table.at? views j = some x) (hr : x.root = true) : j = k := by
  rcases Relation.ReflTransGen.cases_head hb with e | ⟨b, hs, -⟩
  · exact e
  · exact absurd hs (h.no_parent hx hr)

/-- Every view stands below a root of its window (R25). -/
theorem GrantTable.exists_root (h : GrantTable views) {j : Nat} {x : View}
    (hx : Table.at? views j = some x) :
    ∃ r y, Table.at? views r = some y ∧ y.root = true ∧ y.window = x.window ∧ Below views j r := by
  induction hd : x.depth generalizing j x with
  | zero =>
    rcases hr : x.root
    · obtain ⟨_, q, -, -, -, -, -, hd', -⟩ := (h.sound hx).child hr
      omega
    · exact ⟨j, x, hx, hr, rfl, .refl⟩
  | succ d ih =>
    rcases hr : x.root
    · obtain ⟨b, hs⟩ := h.exists_parent hx hr
      obtain ⟨x', y, hx', hy, hw, -, hd'⟩ := h.parent hs
      cases hx.symm.trans hx'
      obtain ⟨r, z, hz, hzr, hzw, hb⟩ := ih hy (by omega)
      exact ⟨r, z, hz, hzr, hzw.trans hw, .head hs hb⟩
    · have := ((h.sound hx).root hr).2
      omega

/-- Two views of one depth with a view below both are one. -/
theorem GrantTable.eq_of_below (h : GrantTable views) {j a b : Nat} {x y : View}
    (ha : Below views j a) (hb : Below views j b) (hx : Table.at? views a = some x)
    (hy : Table.at? views b = some y) (hd : x.depth = y.depth) : a = b := by
  have hu : Relator.RightUnique (ParentStep views) := fun _ _ _ e e' =>
    Option.some.inj (e.symm.trans e')
  rcases Relation.ReflTransGen.total_of_right_unique hu ha hb with hab | hba
  · obtain ⟨y', hy', -, -, -, he⟩ := h.above hab hx
    cases hy.symm.trans hy'
    exact he hd.le
  · obtain ⟨x', hx', -, -, -, he⟩ := h.above hba hy
    cases hx.symm.trans hx'
    exact (he hd.ge).symm

/-! ### The walk over a subtree -/

theorem GrantTable.mem_childrenOf (h : GrantTable views) {j k : Nat} :
    j ∈ childrenOf views k ↔ ParentStep views j k := by
  rw [Machine.mem_childrenOf h.rising]
  rcases hj : Table.at? views j with _ | y <;> simp [ParentStep, hj]

theorem childrenOf_ascending (h : Table.rising views = true) (k : Nat) :
    (childrenOf views k).Pairwise (· < ·) :=
  List.pairwise_map.2 (((Table.rising_iff _).1 h).filter _)

theorem GrantTable.below_of_mem_treeWalk (h : GrantTable views) {j : Nat} :
    ∀ {n k : Nat}, j ∈ treeWalk views n k → Below views j k
  | 0, _, hj => nomatch hj
  | n + 1, k, hj => by
    rcases List.mem_cons.1 hj with rfl | hj
    · exact .refl
    · obtain ⟨c, hc, hjc⟩ := List.mem_flatMap.1 hj
      exact (h.below_of_mem_treeWalk hjc).tail (h.mem_childrenOf.1 hc)

/-- The walk over so many levels takes what stands below its top by fewer levels. -/
theorem GrantTable.mem_treeWalk (h : GrantTable views) {n j k : Nat} {x y : View}
    (hb : Below views j k) (hx : Table.at? views j = some x) (hy : Table.at? views k = some y)
    (hd : x.depth < y.depth + n) : j ∈ treeWalk views n k := by
  induction hb generalizing n y with
  | refl =>
    cases hx.symm.trans hy
    obtain ⟨m, rfl⟩ : ∃ m, n = m + 1 := ⟨n - 1, by omega⟩
    exact List.mem_cons_self ..
  | tail hb hs ih =>
    obtain ⟨z, y', hz, hy', -, -, hdz⟩ := h.parent hs
    cases hy.symm.trans hy'
    obtain ⟨z', hz', -, -, hle, -⟩ := h.above hb hx
    cases hz.symm.trans hz'
    obtain ⟨m, rfl⟩ : ∃ m, n = m + 1 := ⟨n - 1, by omega⟩
    exact List.mem_cons_of_mem _
      (List.mem_flatMap.2 ⟨_, h.mem_childrenOf.2 hs, ih hz (by omega)⟩)

/-- The subtree of a view is what stands below it (R37). -/
theorem GrantTable.mem_subtree (h : GrantTable views) {j k : Nat} {y : View}
    (hy : Table.at? views k = some y) : j ∈ subtree views k ↔ Below views j k := by
  refine ⟨h.below_of_mem_treeWalk, fun hb => ?_⟩
  obtain ⟨x, hx⟩ := h.listed hb hy
  have := h.depth_le hx
  exact h.mem_treeWalk hb hx hy (by simp only [Config.treeDepth]; omega)

/-- The walk meets no view twice. -/
theorem GrantTable.nodup_treeWalk (h : GrantTable views) : ∀ n k, (treeWalk views n k).Nodup
  | 0, _ => List.nodup_nil
  | n + 1, k => by
    refine List.nodup_cons.2 ⟨fun hk => ?_, List.nodup_flatMap.2
      ⟨fun c _ => h.nodup_treeWalk n c, (childrenOf_ascending h.rising k).imp_of_mem ?_⟩⟩
    · obtain ⟨c, hc, hkc⟩ := List.mem_flatMap.1 hk
      obtain ⟨x, y, hx, hy, -, -, hd⟩ := h.parent (h.mem_childrenOf.1 hc)
      obtain ⟨x', hx', -, -, hle, -⟩ := h.above (h.below_of_mem_treeWalk hkc) hy
      cases hx.symm.trans hx'
      omega
    · intro a b ha hb hlt j hja hjb
      obtain ⟨x, z, hx, hz, -, -, hd⟩ := h.parent (h.mem_childrenOf.1 ha)
      obtain ⟨y, z', hy, hz', -, -, hd'⟩ := h.parent (h.mem_childrenOf.1 hb)
      cases hz.symm.trans hz'
      exact hlt.ne (h.eq_of_below (h.below_of_mem_treeWalk hja) (h.below_of_mem_treeWalk hjb) hx hy
        (by omega))

/-- Below the last level that R25 allows a walk finds nothing more. -/
theorem GrantTable.treeWalk_succ (h : GrantTable views) {n k : Nat} {y : View}
    (hy : Table.at? views k = some y) (hd : 4 ≤ y.depth + n) :
    treeWalk views (n + 1) k = treeWalk views n k := by
  induction n generalizing k y with
  | zero =>
    have := h.depth_le hy
    omega
  | succ n ih =>
    refine congrArg (k :: ·) (List.flatMap_congr fun c hc => ?_)
    obtain ⟨x, y', hx, hy', -, -, hd'⟩ := h.parent (h.mem_childrenOf.1 hc)
    cases hy.symm.trans hy'
    exact ih hx (by omega)

/-- The subtree of a view is the view and then the subtrees of its children (R37). -/
theorem GrantTable.subtree_eq (h : GrantTable views) (k : Nat) :
    subtree views k = k :: (childrenOf views k).flatMap (subtree views) := by
  refine congrArg (k :: ·) (List.flatMap_congr fun c hc => ?_)
  obtain ⟨x, y, hx, -, -, -, hd⟩ := h.parent (h.mem_childrenOf.1 hc)
  exact (h.treeWalk_succ (n := 3) hx (by omega)).symm

/-! ### The walk over a window -/

/-- The keys of the views that meet a condition, in table order. -/
def keysWhere (views : Table View) (p : View → Bool) : List Nat :=
  (views.filter fun e => p e.2).map Prod.fst

theorem mem_keysWhere (h : Table.rising views = true) {p : View → Bool} {k : Nat} :
    k ∈ keysWhere views p ↔ ∃ x, Table.at? views k = some x ∧ p x = true := by
  constructor
  · intro hk
    obtain ⟨e, he, rfl⟩ := List.mem_map.1 hk
    obtain ⟨he, hp⟩ := List.mem_filter.1 he
    exact ⟨e.2, Table.at?_of_mem h he, hp⟩
  · rintro ⟨x, hx, hp⟩
    exact List.mem_map.2 ⟨(k, x), List.mem_filter.2 ⟨Table.mem_of_at? hx, hp⟩, rfl⟩

theorem keysWhere_ascending (h : Table.rising views = true) (p : View → Bool) :
    (keysWhere views p).Pairwise (· < ·) :=
  List.pairwise_map.2 (((Table.rising_iff _).1 h).filter _)

/-- The keys of the root views of a window, in table order. -/
def rootsOf (views : Table View) (w : Nat) : List Nat :=
  keysWhere views fun x => x.root && decide (x.window = w)

theorem mem_rootsOf (h : Table.rising views = true) {w k : Nat} :
    k ∈ rootsOf views w ↔ ∃ x, Table.at? views k = some x ∧ x.root = true ∧ x.window = w := by
  simp [rootsOf, mem_keysWhere h]

/-- The keys that the walk over a window takes: first those that the walks from its roots meet, then the
rest. -/
theorem windowWalk_split (views : Table View) (w : Nat) :
    let named := keysWhere views fun x => decide (x.window = w)
    let walked := ((rootsOf views w).flatMap (subtree views)).filter fun k => named.contains k
    windowWalk views w = walked ++ named.filter fun k => !walked.contains k := by
  simp only [windowWalk, rootsOf, keysWhere, List.filter_filter]

/-- What the walks from the roots of a window meet are the views of the window. -/
theorem GrantTable.mem_rootWalks (h : GrantTable views) {w j : Nat} :
    j ∈ (rootsOf views w).flatMap (subtree views)
      ↔ j ∈ keysWhere views fun x => decide (x.window = w) := by
  simp only [List.mem_flatMap, mem_keysWhere h.rising, mem_rootsOf h.rising, decide_eq_true_eq]
  constructor
  · rintro ⟨r, ⟨y, hy, -, hw⟩, hj⟩
    have hb := (h.mem_subtree hy).1 hj
    obtain ⟨x, hx⟩ := h.listed hb hy
    obtain ⟨y', hy', hw', -⟩ := h.above hb hx
    cases hy.symm.trans hy'
    exact ⟨x, hx, hw'.symm.trans hw⟩
  · rintro ⟨x, hx, hw⟩
    obtain ⟨r, y, hy, hr, hyw, hb⟩ := h.exists_root hx
    exact ⟨r, ⟨y, hy, hr, hyw.trans hw⟩, (h.mem_subtree hy).2 hb⟩

/-- The walk over the views of a window is the walk from each of its roots. -/
theorem GrantTable.windowWalk_eq (h : GrantTable views) (w : Nat) :
    windowWalk views w = (rootsOf views w).flatMap (subtree views) := by
  rw [windowWalk_split]
  have hall : ((rootsOf views w).flatMap (subtree views)).filter (fun k =>
      (keysWhere views fun x => decide (x.window = w)).contains k)
        = (rootsOf views w).flatMap (subtree views) :=
    List.filter_eq_self.2 fun j hj => List.contains_iff_mem.2 (h.mem_rootWalks.1 hj)
  have hrest : (keysWhere views fun x => decide (x.window = w)).filter (fun k =>
      !((rootsOf views w).flatMap (subtree views)).contains k) = [] :=
    List.filter_eq_nil_iff.2 fun j hj => by
      rw [List.contains_iff_mem.2 (h.mem_rootWalks.2 hj)]
      exact Bool.false_ne_true
  simp only [hall, hrest, List.append_nil]

theorem GrantTable.nodup_windowWalk (h : GrantTable views) (w : Nat) :
    (windowWalk views w).Nodup := by
  rw [h.windowWalk_eq]
  refine List.nodup_flatMap.2 ⟨fun r _ => h.nodup_treeWalk _ r,
    (keysWhere_ascending h.rising _).imp_of_mem fun {a b} ha hb hlt j hja hjb => ?_⟩
  obtain ⟨x, hx, hxr, -⟩ := (mem_rootsOf h.rising).1 ha
  obtain ⟨y, hy, hyr, -⟩ := (mem_rootsOf h.rising).1 hb
  exact hlt.ne (h.eq_of_below (h.below_of_mem_treeWalk hja) (h.below_of_mem_treeWalk hjb) hx hy
    (((h.sound hx).root hxr).2.trans ((h.sound hy).root hyr).2.symm))

/-- A window with one root has that root alone in its list. -/
theorem rootsOf_eq_singleton (h : Table.rising views = true) {w k : Nat}
    (hk : k ∈ rootsOf views w) (hu : ∀ j ∈ rootsOf views w, j = k) : rootsOf views w = [k] := by
  have hp : (rootsOf views w).Pairwise (· < ·) := keysWhere_ascending h _
  generalize rootsOf views w = l at hk hu hp
  match l, hk with
  | [a], _ => rw [hu a (List.mem_cons_self ..)]
  | a :: b :: l, _ =>
    have := (List.pairwise_cons.1 hp).1 b (List.mem_cons_self ..)
    rw [hu a (by simp), hu b (by simp)] at this
    exact absurd this (lt_irrefl k)

/-- The keys of the View Table are in the order of holder code and then selector (R23). -/
theorem ViewId.key_lt_iff {u v : ViewId} (hu : u.inRange) (hv : v.inRange) :
    u.key < v.key ↔ u.holder.code < v.holder.code
      ∨ (u.holder.code = v.holder.code ∧ u.selector < v.selector) := by
  have h1 := hu.selector_lt
  have h2 := hv.selector_lt
  simp only [ViewId.key]
  omega

/-- Settles O25: the walk of a window is the walk from its roots, and a walk over a subtree goes as deep
as R25 lets a tree be. -/
theorem treeWalkPreorder : Obligations.TreeWalkPreorder := by
  refine ⟨fun u v => ViewId.key_lt_iff, fun s hs => ?_⟩
  have h := grantTrees_iff.1 hs
  refine ⟨fun w k => mem_windowWalk h.rising w k, h.nodup_windowWalk, fun w k x hx hw hr hu => ?_,
    fun k x _ => ⟨h.subtree_eq k, childrenOf_ascending h.rising k,
      Machine.mem_childrenOf h.rising k⟩⟩
  have hone : rootsOf s.dir.views w = [k] :=
    rootsOf_eq_singleton h.rising ((mem_rootsOf h.rising).2 ⟨x, hx, hr, hw⟩) fun j hj => by
      obtain ⟨y, hy, hyr, hyw⟩ := (mem_rootsOf h.rising).1 hj
      exact hu j y hy hyw hyr
  rw [h.windowWalk_eq, hone, List.flatMap_cons, List.flatMap_nil, List.append_nil]

end Sys2Proof.Machine
end

section
/-! SUPPORT. NARROW VIEW: what its plan holds of each view of the target's subtree, the View Table and the
notices that it leaves, and its checks (R32 to R35).
-/

namespace Sys2Proof.Machine

variable {views : Table View} {s : State} {i : PortId}

/-! ### Sets of rights -/

theorem Rights.isEmpty_iff {r : Rights} : r.isEmpty = true
    ↔ r.read = false ∧ r.write = false ∧ r.grant = false ∧ r.swap = false := by
  simp [Rights.isEmpty, and_assoc]

/-- What has no right has no subset with one. -/
theorem Rights.isEmpty_of_subset {r q : Rights} (h : r.subset q = true) (hq : q.isEmpty = true) :
    r.isEmpty = true := by
  obtain ⟨h1, h2, h3, h4⟩ := Rights.subset_iff.1 h
  obtain ⟨q1, q2, q3, q4⟩ := Rights.isEmpty_iff.1 hq
  exact Rights.isEmpty_iff.2 ⟨by simpa [q1] using h1, by simpa [q2] using h2,
    by simpa [q3] using h3, by simpa [q4] using h4⟩

theorem Rights.inter_subset_left (r q : Rights) : (r.inter q).subset r = true :=
  Rights.subset_iff.2 (by simp +contextual [Rights.inter])

theorem Rights.inter_subset_inter {r q : Rights} (h : r.subset q = true) (p : Rights) :
    (r.inter p).subset (q.inter p) = true := by
  obtain ⟨h1, h2, h3, h4⟩ := Rights.subset_iff.1 h
  refine Rights.subset_iff.2 ?_
  simp +contextual only [Rights.inter, Bool.and_eq_true, and_true, and_imp]
  exact ⟨fun h _ => h1 h, fun h _ => h2 h, fun h _ => h3 h, fun h _ => h4 h⟩

/-! ### The plan -/

/-- What a narrowing leaves of a view. -/
def NarrowAct.leaves : NarrowAct → View → Option View
  | .narrow _ after, x => some { x with rights := after }
  | .void _, _ => none

/-- The notice of what a narrowing does to the view of a key (R34, R35). -/
def NarrowAct.notice (j : Nat) : NarrowAct → Option Notice
  | .narrow before after =>
    if before = after then none else some (Notice.viewNarrowed (ViewId.ofKey j) after)
  | .void cause => some (Notice.viewVoided (ViewId.ofKey j) cause)

theorem planNotices_eq (plan : List (Nat × NarrowAct)) :
    planNotices plan = plan.filterMap fun e => e.2.notice e.1 :=
  List.filterMap_congr fun e _ => by cases h : e.2 <;> rfl

/-- The table after a narrowing holds of each view what the plan leaves of it, and each view that the plan
does not name. -/
theorem at?_applyPlan (views : Table View) (plan : List (Nat × NarrowAct)) (j : Nat) :
    Table.at? (applyPlan views plan) j
      = (Table.at? views j).bind fun x => (Table.at? plan j).elim (some x) (·.leaves x) := by
  induction views with
  | nil => rfl
  | cons e views ih =>
    obtain ⟨k, x⟩ := e
    rw [Table.at?_cons]
    unfold applyPlan at ih ⊢
    rcases hk : Table.at? plan k with _ | ⟨before, after⟩ | cause
    · rw [List.filterMap_cons_some (b := (k, x)) (by simp only [hk]), Table.at?_cons]
      split
      · rename_i h
        subst h
        simp [hk]
      · exact ih
    · rw [List.filterMap_cons_some (b := (k, { x with rights := after })) (by simp only [hk]),
        Table.at?_cons]
      split
      · rename_i h
        subst h
        simp [hk, NarrowAct.leaves]
      · exact ih
    · rw [List.filterMap_cons_none (by simp only [hk]), ih]
      split
      · rename_i h
        subst h
        rcases Table.at? views k <;> simp [hk, NarrowAct.leaves]
      · rfl

/-- The rights of a view's parent and `r` have none in common. -/
def parentLost (views : Table View) (r : Rights) (x : View) : Bool :=
  ((x.parent.map ViewId.key).bind (Table.at? views)).any fun q => (q.rights.inter r).isEmpty

/-- What a narrowing of the subtree of `top` to `r` does to a view of it (R33, R34). -/
def narrowAct (views : Table View) (r : Rights) (top j : Nat) (x : View) : NarrowAct :=
  if (x.rights.inter r).isEmpty then
    .void (if j ≠ top ∧ parentLost views r x = true then .parentVoided else .narrowedToNone)
  else .narrow x.rights (x.rights.inter r)

/-- The part of a plan that names some keys in order. -/
def narrowActs (views : Table View) (r : Rights) (top : Nat) (ks : List Nat) : List (Nat × NarrowAct) :=
  ks.filterMap fun j => (Table.at? views j).map fun x => (j, narrowAct views r top j x)

theorem narrowActs_cons {r : Rights} {top k : Nat} {x : View} (hx : Table.at? views k = some x)
    (ks : List Nat) :
    narrowActs views r top (k :: ks) = (k, narrowAct views r top k x) :: narrowActs views r top ks :=
  List.filterMap_cons_some (by simp [hx])

theorem parentLost_eq {r : Rights} {j b : Nat} {x y : View}
    (hs : ParentStep views j b) (hx : Table.at? views j = some x) (hy : Table.at? views b = some y) :
    parentLost views r x = (y.rights.inter r).isEmpty := by
  have hp : x.parent.map ViewId.key = some b := by simpa [ParentStep, hx] using hs
  simp [parentLost, hp, hy]

/-- What stands below a view without a right in `r` has none either, and below its top its parent has
none (R33). -/
theorem GrantTable.narrowAct_below (h : GrantTable views) {r : Rights} {top k c j : Nat} {v : View}
    (hv : Table.at? views k = some v) (he : (v.rights.inter r).isEmpty = true)
    (htop : Below views k top) (hc : ParentStep views c k) (hj : Below views j c) :
    ∃ x, Table.at? views j = some x ∧ narrowAct views r top j x = .void .parentVoided := by
  obtain ⟨y, v', hy, hv', -, -, hd⟩ := h.parent hc
  cases hv.symm.trans hv'
  obtain ⟨x, hx⟩ := h.listed hj hy
  obtain ⟨y', hy', -, -, hle, -⟩ := h.above hj hx
  cases hy.symm.trans hy'
  have hbelow : Below views j k := hj.tail hc
  have hempty {a : Nat} {z : View} (ha : Below views a k) (hz : Table.at? views a = some z) :
      (z.rights.inter r).isEmpty = true := by
    obtain ⟨v', hv', -, hsub, -⟩ := h.above ha hz
    cases hv.symm.trans hv'
    exact Rights.isEmpty_of_subset (Rights.inter_subset_inter hsub r) he
  obtain ⟨b, hs, hb⟩ : ∃ b, ParentStep views j b ∧ Below views b k := by
    rcases Relation.ReflTransGen.cases_head hj with rfl | ⟨b, hs, hb⟩
    · exact ⟨k, hc, .refl⟩
    · exact ⟨b, hs, hb.tail hc⟩
  obtain ⟨-, z, -, hz, -⟩ := h.parent hs
  have hne : j ≠ top := by
    rintro rfl
    obtain ⟨x', hx', -, -, hle', -⟩ := h.above htop hv
    cases hx.symm.trans hx'
    omega
  refine ⟨x, hx, ?_⟩
  simp [narrowAct, hempty hbelow hx, parentLost_eq hs hx hz, hempty hb hz, hne]

/-- The plan of a narrowing takes the walk over the target's subtree, and does to each view of it what
R33 and R34 say (assumption 23). -/
theorem GrantTable.narrowPlan_eq (h : GrantTable views) (r : Rights) (top : Nat) :
    ∀ (n k : Nat) (v : View), Table.at? views k = some v → Below views k top →
      (k = top ∨ parentLost views r v = false) →
      narrowPlan views r n k = narrowActs views r top (treeWalk views n k)
  | 0, _, _, _, _, _ => rfl
  | n + 1, k, v, hv, htop, hk => by
    have hchild {c : Nat} (hc : c ∈ childrenOf views k) : ParentStep views c k :=
      h.mem_childrenOf.1 hc
    simp only [narrowPlan, hv, treeWalk]
    rw [narrowActs_cons hv]
    by_cases he : (v.rights.inter r).isEmpty = true
    · rw [if_pos he]
      congr 1
      · have hcause : ¬(k ≠ top ∧ parentLost views r v = true) := fun ⟨h1, h2⟩ =>
          hk.elim h1 fun h3 => Bool.false_ne_true (h3.symm.trans h2)
        simp only [narrowAct, he, if_true, if_neg hcause]
      · unfold narrowActs
        refine ((List.filterMap_congr (g := some ∘ fun j => (j, NarrowAct.void .parentVoided))
          fun j hj => ?_).trans (congrFun List.filterMap_eq_map _)).symm
        obtain ⟨c, hc, hjc⟩ := List.mem_flatMap.1 hj
        obtain ⟨x, hx, ha⟩ := h.narrowAct_below hv he htop (hchild hc)
          (h.below_of_mem_treeWalk hjc)
        simp [hx, ha]
    · rw [if_neg he, narrowActs, List.filterMap_flatMap]
      congr 1
      · simp only [narrowAct, he]
        rfl
      · refine List.flatMap_congr fun c hc => ?_
        obtain ⟨x, v', hx, hv', -⟩ := h.parent (hchild hc)
        cases hv.symm.trans hv'
        refine h.narrowPlan_eq r top n c x hx (.head (hchild hc) htop) (.inr ?_)
        rw [parentLost_eq (hchild hc) hx hv]
        exact Bool.not_eq_true _ ▸ he

/-- A plan holds of each key that it names what is done to the view of that key. -/
theorem at?_narrowActs (views : Table View) (r : Rights) (top j : Nat) (ks : List Nat) :
    Table.at? (narrowActs views r top ks) j
      = if j ∈ ks then (Table.at? views j).map (narrowAct views r top j) else none := by
  induction ks with
  | nil => rfl
  | cons k ks ih =>
    rcases hk : Table.at? views k with _ | x
    · rw [show narrowActs views r top (k :: ks) = narrowActs views r top ks from
        List.filterMap_cons_none (by simp [hk]), ih]
      by_cases hj : j = k
      · subst hj
        simp [hk]
      · simp [hj]
    · rw [narrowActs_cons hk, Table.at?_cons, ih]
      by_cases hj : k = j
      · subst hj
        simp [hk]
      · simp [hj, Ne.symm hj]

/-- The View Table after a narrowing: every view of the target's subtree keeps the intersection of its
rights with the new ones, or is VOID where there is none, and every other view is as before (R33, R34). -/
theorem GrantTable.at?_narrowed (h : GrantTable views) {k : Nat} {v : View}
    (hv : Table.at? views k = some v) (r : Rights) (j : Nat) :
    Table.at? (applyPlan views (narrowPlan views r Config.treeDepth k)) j
      = if j ∈ subtree views k then
          (Table.at? views j).bind fun x =>
            if (x.rights.inter r).isEmpty then none else some { x with rights := x.rights.inter r }
        else Table.at? views j := by
  rw [at?_applyPlan, h.narrowPlan_eq r k _ k v hv .refl (.inl rfl), at?_narrowActs,
    show treeWalk views Config.treeDepth k = subtree views k from rfl]
  rcases hx : Table.at? views j with _ | x
  · simp
  · by_cases hj : j ∈ subtree views k
    · simp only [hj, if_true, Option.map_some, Option.bind_some, Option.elim_some, narrowAct]
      split <;> rfl
    · simp [hj]

/-- The notices of a narrowing, by the views of the walk (R34, R35; assumption 23). -/
theorem GrantTable.planNotices_narrowPlan (h : GrantTable views) {k : Nat} {v : View}
    (hv : Table.at? views k = some v) (r : Rights) :
    planNotices (narrowPlan views r Config.treeDepth k)
      = (subtree views k).filterMap fun j => (Table.at? views j).bind fun x =>
          (narrowAct views r k j x).notice j := by
  rw [planNotices_eq, h.narrowPlan_eq r k _ k v hv .refl (.inl rfl), narrowActs,
    List.filterMap_filterMap]
  refine List.filterMap_congr fun j _ => ?_
  rcases Table.at? views j <;> rfl

theorem narrowAct_notice (r : Rights) (k j : Nat) (x : View) :
    (narrowAct views r k j x).notice j
      = if (x.rights.inter r).isEmpty then
          if j ≠ k ∧ parentLost views r x = true then
            some (Notice.viewVoided (ViewId.ofKey j) .parentVoided)
          else some (Notice.viewVoided (ViewId.ofKey j) .narrowedToNone)
        else if x.rights.inter r = x.rights then none
        else some (Notice.viewNarrowed (ViewId.ofKey j) (x.rights.inter r)) := by
  unfold narrowAct
  split
  · split <;> rfl
  · simp only [NarrowAct.notice, eq_comm]

/-! ### The caller's view above the target -/

/-- What the search through parent fields finds is above the view (R32). -/
theorem properAncestor_of_isAncestor {anc : Nat} :
    ∀ {n k : Nat}, isAncestor views anc n k = true → ProperAncestor views anc k
  | 0, _, ha => nomatch ha
  | n + 1, k, ha => by
    unfold isAncestor at ha
    rcases hp : (Table.at? views k).bind View.parent with _ | q
    · simp [hp] at ha
    · have hs : ParentStep views k q.key := by simp [ParentStep, hp]
      simp only [hp, Bool.or_eq_true, decide_eq_true_eq] at ha
      rcases ha with rfl | ha
      · exact .single hs
      · exact .head hs (properAncestor_of_isAncestor ha)

/-- The search goes as far as the depth of the view (R25, R32). -/
theorem GrantTable.isAncestor_of_properAncestor (h : GrantTable views) {anc n k : Nat}
    (ha : ProperAncestor views anc k) {x : View} (hx : Table.at? views k = some x)
    (hd : x.depth ≤ n) : isAncestor views anc n k = true := by
  have hfirst : ∃ b, ParentStep views k b ∧ (b = anc ∨ ProperAncestor views anc b) := by
    rcases Relation.TransGen.head'_iff.1 ha with ⟨b, hs, hb⟩
    exact ⟨b, hs, (Relation.reflTransGen_iff_eq_or_transGen.1 hb).imp Eq.symm id⟩
  obtain ⟨b, hs, hb⟩ := hfirst
  obtain ⟨x', y, hx', hy, -, -, hd'⟩ := h.parent hs
  cases hx.symm.trans hx'
  obtain ⟨q, hq, rfl⟩ := Option.map_eq_some_iff.1 hs
  cases n with
  | zero => omega
  | succ n =>
    simp only [isAncestor, hq, Bool.or_eq_true, decide_eq_true_eq]
    exact hb.imp id fun hb => h.isAncestor_of_properAncestor hb hy (by omega)

theorem GrantTable.isAncestor_iff (h : GrantTable views) (anc k : Nat) :
    isAncestor views anc Config.treeDepth k = true ↔ ProperAncestor views anc k := by
  refine ⟨properAncestor_of_isAncestor, fun ha => ?_⟩
  obtain ⟨b, hs, -⟩ := Relation.TransGen.head'_iff.1 ha
  obtain ⟨x, -, hx, -⟩ := h.parent hs
  exact h.isAncestor_of_properAncestor ha hx ((h.depth_le hx).trans (by decide))

/-! ### The command -/

/-- A rights byte is read as its bits 0 to 3, where no other bit is set (R174). -/
theorem Rights.ofByte?_eq (b : Byte) :
    Rights.ofByte? b = if b.toNat < 16 then some (rightsOf b) else none := rfl

theorem Rights.ofByte?_eq_some {b : Byte} {r : Rights} (h : Rights.ofByte? b = some r) :
    b.toNat < 16 ∧ r = rightsOf b := by
  rw [Rights.ofByte?_eq, Option.ite_none_right_eq_some] at h
  exact ⟨h.1, (Option.some.inj h.2).symm⟩

theorem Rights.ofByte?_isNone (b : Byte) : decide (16 ≤ b.toNat) = (Rights.ofByte? b).isNone := by
  rw [Rights.ofByte?_eq]
  split <;> simp <;> omega

/-- NARROW VIEW refuses as the manual lists it (R32). -/
theorem mirrors_checkNarrowView (i : PortId) (selector target targetSelector rights : Byte)
    (s : State) : Mirrors (narrowChecks i selector target targetSelector rights s)
      (checkNarrowView i selector target targetSelector rights s) := by
  refine (mirrors_callerView s (s.caller i) selector).bind fun _ _ =>
    .cons (mirrors_found rfl) fun t ht => ?_
  rw [found_eq_ok.1 ht]
  refine .cons (mirrors_require (by simp)) fun _ _ => .cons (mirrors_require (by simp)) fun _ _ =>
    .cons (mirrors_found rfl) fun v hv => .cons (mirrors_require rfl) fun _ _ =>
    .or (mirrors_found (Rights.ofByte?_isNone _)) fun r hr => .cons (mirrors_require ?_) fun _ _ => rfl
  obtain ⟨-, rfl⟩ := Rights.ofByte?_eq_some (found_eq_ok.1 hr)
  rw [Option.bind_some, show s.viewAt t targetSelector = some v from found_eq_ok.1 hv, Option.any_some]

/-- What the checks of NARROW VIEW leave known (R32). -/
theorem checkNarrowView_ok {selector target targetSelector rights : Byte} {x : Nat × Rights}
    (h : checkNarrowView i selector target targetSelector rights s = .ok x) :
    ∃ t v, Holder.ofCode? target.toNat = some t ∧ x = (ViewId.key ⟨t, targetSelector.toNat⟩, rightsOf rights)
      ∧ Table.at? s.dir.views x.1 = some v
      ∧ isAncestor s.dir.views (ViewId.key ⟨s.caller i, selector.toNat⟩) Config.treeDepth x.1 = true := by
  simp only [checkNarrowView, Checks.bind_eq_ok, found_eq_ok, require_eq_ok, Checks.pure_eq,
    Except.ok.injEq] at h
  obtain ⟨-, -, t, ht, -, -, -, -, v, hv, -, ha, r, hr, -, -, rfl⟩ := h
  obtain ⟨-, rfl⟩ := Rights.ofByte?_eq_some hr
  exact ⟨t, v, ht, rfl, hv, ha⟩

/-- A View Table written, with notices and a bare answer. -/
theorem unchangedBut_viewCommand (s : State) (views : Table View) (ns : List Notice) (i : PortId)
    (code : ResultCode) :
    UnchangedBut (fun x => x.isNotice ∨ (∃ j, x = .view j) ∨ x = .response i) s
      ((({ s with dir.views := views } : State).postAll ns).reply i code) :=
  ((unchangedBut_views s views).trans (unchangedBut_postAll _ ns)
    (r := fun x => x.isNotice ∨ ∃ j, x = .view j) (fun _ => .inr) fun _ => .inl).answer
    (fun _ h => h.imp_right .inl) (.inr (.inr rfl))

/-- What is posted before an answer is posted, and the answer posts nothing. -/
theorem posted_answer {u : State} (h : u.ports = s.ports) (ns : List Notice) (i : PortId)
    (code : ResultCode) (detail : List Byte) :
    Posted s ((u.postAll ns).answer i code detail) ns := by
  have hp (j : PortId) : (u.postAll ns).port j = ((ns.foldl Ports.post s.ports).get j) := by
    rw [← h]
    rfl
  intro j
  rw [State.port_answer]
  split
  · rename_i hj
    subst hj
    rw [hp]
    exact ⟨rfl, rfl⟩
  · rw [hp]
    exact ⟨rfl, rfl⟩

/-- Settles O27: the search finds the proper ancestors because no tree is deeper than it goes, and the plan
does to each view of the subtree what R33 and R34 say. -/
theorem narrowViewIntersects : Obligations.NarrowViewIntersects := by
  refine ⟨fun s anc k hs => (grantTrees_iff.1 hs).isAncestor_iff anc k,
    fun i selector target targetSelector rights s code hi => refused_of_mirrors hi rfl
      (mirrors_checkNarrowView i selector target targetSelector rights s),
    fun i selector target targetSelector rights s h k hi hs hc hh hk => ?_⟩
  have hg := grantTrees_iff.1 hs
  obtain ⟨x, hx, he⟩ := acts_of_mirrors
    (c := .narrowView i selector target targetSelector rights) hi rfl
    (mirrors_checkNarrowView i selector target targetSelector rights s) hc
  obtain ⟨t, v, ht, rfl, hv, -⟩ := checkNarrowView_ok hx
  cases hh.symm.trans ht
  subst hk
  refine ⟨_, he, by simp [State.answered], fun j => ?_, ?_,
    unchangedBut_viewCommand s _ _ i .ok⟩
  · exact hg.at?_narrowed hv (rightsOf rights) j
  · have hn := hg.planNotices_narrowPlan hv (rightsOf rights)
    simp only [narrowAct_notice] at hn
    exact hn ▸ posted_answer rfl _ i .ok []

end Sys2Proof.Machine
end

section
/-! SUPPORT. DROP VIEW, DESCRIBE VIEW and GRANT VIEW: their checks, and what each leaves (R29, R30, R37 to
R40).
-/

namespace Sys2Proof.Machine

variable {s : State} {i : PortId} {selector : Byte}

/-! ### DROP VIEW -/

/-- DROP VIEW refuses as the manual lists it (R39). -/
theorem mirrors_checkDropView (i : PortId) (selector : Byte) (s : State) :
    Mirrors (dropChecks i selector s) (checkDropView i selector s) := by
  refine (mirrors_callerView s (s.caller i) selector).bind fun v hv => ?_
  rw [callerView_eq_ok hv]
  exact .cons (mirrors_require (by simp)) fun _ _ => rfl

/-- What the checks of DROP VIEW leave known (R39). -/
theorem checkDropView_ok {k : Nat} (h : checkDropView i selector s = .ok k) :
    k = ViewId.key ⟨s.caller i, selector.toNat⟩
      ∧ ∃ v, Table.at? s.dir.views k = some v ∧ v.root = false := by
  simp only [checkDropView, Checks.bind_eq_ok, require_eq_ok, Checks.pure_eq, Except.ok.injEq,
    Bool.not_eq_true'] at h
  obtain ⟨v, hv, -, hr, rfl⟩ := h
  exact ⟨rfl, v, callerView_eq_ok hv, hr⟩

/-- Settles O28: the keys voided are those of the walk over the subtree, and the caller's own notice is left
out. -/
theorem dropViewVoidsSubtree : Obligations.DropViewVoidsSubtree := by
  rintro i selector s k hi rfl
  refine ⟨fun _ => refused_of_mirrors hi rfl (mirrors_checkDropView i selector s), fun hc => ?_⟩
  obtain ⟨k, hk, he⟩ := acts_of_mirrors (c := .dropView i selector) hi rfl
    (mirrors_checkDropView i selector s) hc
  obtain ⟨rfl, -⟩ := checkDropView_ok hk
  exact ⟨_, he, by simp [State.answered], at?_voidKeys _ _, posted_answer rfl _ i .ok [],
    unchangedBut_viewCommand s _ _ i .ok⟩

/-! ### DESCRIBE VIEW -/

/-- Eight bits of a number in a field are those of the number itself (chapter 12). -/
theorem extract_byteOf (n : Nat) {w k : Nat} (hk : k + 8 ≤ w) :
    (BitVec.ofNat w n).extractLsb' k 8 = byteOf (n / 2 ^ k) := by
  refine BitVec.eq_of_getLsbD_eq fun j hj => ?_
  have hw : k + j < w := by omega
  rw [BitVec.getLsbD_extractLsb', byteOf, BitVec.getLsbD_ofNat, BitVec.getLsbD_ofNat,
    Nat.testBit_div_two_pow, Nat.add_comm j k]
  simp [hj, hw]

theorem bytes2_ofNat (n : Nat) : Frame.bytes2 (BitVec.ofNat 16 n) = [byteOf (n / 256), byteOf n] := by
  simp [Frame.bytes2, extract_byteOf]

theorem bytes3_ofNat (n : Nat) :
    Frame.bytes3 (BitVec.ofNat 24 n) = [byteOf (n / 65536), byteOf (n / 256), byteOf n] := by
  simp [Frame.bytes3, extract_byteOf]

/-- The answer of DESCRIBE VIEW, byte by byte (R40, R175). -/
theorem describeBytes_eq (h : Holder) (v : View) (w : Window) :
    describeBytes h v w
      = [w.state.toByte, w.cls.toByte, byteOf w.unit, if w.bank1.isSome then 2#8 else 1#8,
          byteOf w.live.toNat]
        ++ [byteOf (w.bank0.limit / 65536), byteOf (w.bank0.limit / 256), byteOf w.bank0.limit]
        ++ (match w.bank1 with
            | some b => [byteOf (b.limit / 65536), byteOf (b.limit / 256), byteOf b.limit]
            | none => [0#8, 0#8, 0#8])
        ++ [v.rights.toByte, byteOf v.depth, flagByte v.root, flagByte w.damaged]
        ++ (if v.root = true ∨ h = .payment then
              [byteOf (w.lifetime.getD 0 / 256), byteOf (w.lifetime.getD 0)]
            else [0#8, 0#8]) := by
  have hbanks : byteOf w.bankCount = if w.bank1.isSome then 2#8 else 1#8 := by
    unfold Window.bankCount
    split <;> rfl
  have hlimit : [byteOf ((w.bank1.map Bank.limit).getD 0 / 65536),
      byteOf ((w.bank1.map Bank.limit).getD 0 / 256), byteOf ((w.bank1.map Bank.limit).getD 0)]
      = match w.bank1 with
        | some b => [byteOf (b.limit / 65536), byteOf (b.limit / 256), byteOf b.limit]
        | none => [0#8, 0#8, 0#8] := by
    rcases w.bank1 <;> rfl
  have hlife : Frame.bytes2 (BitVec.ofNat 16
      (if v.root || decide (h = .payment) then w.lifetime.getD 0 else 0))
      = if v.root = true ∨ h = .payment then
          [byteOf (w.lifetime.getD 0 / 256), byteOf (w.lifetime.getD 0)]
        else [0#8, 0#8] := by
    simp only [bytes2_ofNat, Bool.or_eq_true, decide_eq_true_eq]
    split <;> rfl
  rw [describeBytes, bytes3_ofNat, bytes3_ofNat, hbanks, hlimit, hlife]

/-- The checks of DESCRIBE VIEW find the view and its window, where the window is not FREE (R40). -/
theorem checkDescribeView_eq {v : View} {w : Window}
    (hc : firstFailure (viewChecks s (s.caller i) selector) = none)
    (hv : s.viewAt (s.caller i) selector = some v) (hw : s.window? v.window = some w) :
    checkDescribeView i selector s = .ok (v, w) := by
  obtain ⟨v', hv'⟩ := (mirrors_callerView s (s.caller i) selector).ok hc
  cases hv.symm.trans (callerView_eq_ok hv')
  simp [checkDescribeView, hv', hw]

/-- Settles O29: the command answers what its checks found, and writes nothing. -/
theorem describeViewAnswers : Obligations.DescribeViewAnswers := by
  intro i selector s hi
  refine ⟨fun code hc => refused_of_reply ?_, fun v w hc hv hw => ?_⟩
  · have he : checkDescribeView i selector s = .error code := by
      rw [checkDescribeView, (mirrors_callerView s (s.caller i) selector).error hc, Checks.error_bind]
    change Host.Outcome.next (s.onIdle i (s.checked i (checkDescribeView i selector s) _)) = _
    rw [State.onIdle_idle hi, he, State.checked_error]
  · refine ⟨s.answer i .ok (describeBytes (s.caller i) v w), ?_, ?_, s.answer_unchangedBut i _ _⟩
    · change Host.Outcome.next (s.onIdle i (s.checked i (checkDescribeView i selector s) _)) = _
      rw [State.onIdle_idle hi, checkDescribeView_eq hc hv hw, State.checked_ok]
    · rw [State.answered, State.port_answer_same]
      exact congrArg (fun d => some (Response.mk .ok d)) (describeBytes_eq (s.caller i) v w)

/-! ### GRANT VIEW -/

/-- A byte of rights is the byte of the set that it gives (R174). -/
theorem toByte_rightsOf {b : Byte} (hb : b.toNat < 16) : (rightsOf b).toByte = b := by
  have e : b = BitVec.ofNat 8 b.toNat := by simp
  rw [e]
  generalize b.toNat = n at hb
  interval_cases n <;> rfl

/-- The byte of no right is 0 (R174). -/
theorem isEmpty_rightsOf {b : Byte} (hb : b.toNat < 16) :
    (rightsOf b).isEmpty = decide (b = 0#8) := by
  have e : b = BitVec.ofNat 8 b.toNat := by simp
  rw [e]
  generalize b.toNat = n at hb
  interval_cases n <;> rfl

/-- A check made of two that refuse alike, before the rest. -/
theorem Mirrors.or_cons {α β : Type} {b c : Bool} {code : ResultCode} {m : List (Bool × ResultCode)}
    {x : Except ResultCode α} {f : α → Except ResultCode β} (hx : Mirrors [(b, code)] x)
    (hf : ∀ a, x = .ok a → Mirrors ((c, code) :: m) (f a)) :
    Mirrors ((b || c, code) :: m) (x >>= f) := by
  have h : Mirrors ((b, code) :: (c, code) :: m) (x >>= f) := hx.cons hf
  have e : firstFailure ((b || c, code) :: m) = firstFailure ((b, code) :: (c, code) :: m) := by
    cases b <;> rfl
  unfold Mirrors at h ⊢
  rw [e]
  exact h

/-- The numbers from 1 to a holder's highest selector, one of which has a property. -/
theorem any_from_one (n : Nat) (p : Nat → Bool) :
    ((List.range n).map (· + 1)).any p = (List.range n).any fun j => p (j + 1) := List.any_map

/-- GRANT VIEW refuses as the manual lists it (R29). -/
theorem mirrors_checkGrantView (i : PortId) (selector target rights : Byte) (s : State) :
    Mirrors (grantChecks i selector target rights s) (checkGrantView i selector target rights s) := by
  refine (mirrors_callerView s (s.caller i) selector).bind fun v hv => ?_
  rw [callerView_eq_ok hv, Bool.or_comm (decide (rights = 0#8)), Bool.or_assoc, Bool.or_assoc]
  refine .cons (mirrors_liveWindow s v) fun w hw => ?_
  rw [show s.behind (some v) = some w from (liveWindow_eq_ok.1 hw).1]
  refine .cons (mirrors_require rfl) fun _ _ =>
    .or_cons (mirrors_found (Rights.ofByte?_isNone rights)) fun r hr => ?_
  obtain ⟨hb, rfl⟩ := Rights.ofByte?_eq_some (found_eq_ok.1 hr)
  refine .cons (mirrors_require ?_) fun _ _ =>
    .cons (mirrors_require (not_decide_lt 3 v.depth)) fun _ _ => .cons (mirrors_found rfl) fun t ht => ?_
  · rw [← isEmpty_rightsOf hb]
    simp only [Option.any_some, Bool.not_and, Bool.not_not, Bool.not_or, Bool.or_assoc]
  rw [found_eq_ok.1 ht]
  refine .cons (mirrors_require rfl) fun _ _ => .cons (mirrors_require (Bool.not_not _).symm) fun _ _ =>
    .cons (mirrors_require ?_) fun _ _ => .cons (mirrors_found ?_) fun _ _ => rfl
  · rw [State.holdsViewOf, any_from_one, Bool.not_not]
    rfl
  · rw [State.freeSelector, find?_from_one_isNone]
    simp

/-- What the checks of GRANT VIEW leave known (R29): the view that grants, its LIVE window, and a place VOID
and in range whose holder has no view of the window and may hold one. -/
theorem checkGrantView_ok {target rights : Byte} {g : GrantTicket}
    (h : checkGrantView i selector target rights s = .ok g) :
    ∃ v w t n, s.callerView (s.caller i) selector = .ok v ∧ s.window? v.window = some w
      ∧ w.isLive = true ∧ rights.toNat < 16 ∧ (rightsOf rights).isEmpty = false
      ∧ (rightsOf rights).subset v.rights = true ∧ v.depth < 3
      ∧ Holder.ofCode? target.toNat = some t ∧ (t.isA = true → w.cls ≠ .guarded)
      ∧ s.holdsViewOf t v.window = false ∧ s.freeSelector t = some n
      ∧ g = ⟨⟨t, n⟩, ⟨v.window, rightsOf rights, false, some ⟨s.caller i, selector.toNat⟩,
          v.depth + 1⟩, s.caller i, w.liveLimit⟩ := by
  simp only [checkGrantView, Checks.bind_eq_ok, liveWindow_eq_ok, found_eq_ok, require_eq_ok,
    Checks.pure_eq, Except.ok.injEq, Bool.and_eq_true, Bool.not_eq_true', decide_eq_true_eq] at h
  obtain ⟨v, hv, w, ⟨hw, hl⟩, -, -, r, hr, -, ⟨⟨he, hs⟩, -⟩, -, hd, t, ht, -, -, -, hc, -, hdup, n, hn,
    rfl⟩ := h
  obtain ⟨hb, rfl⟩ := Rights.ofByte?_eq_some hr
  refine ⟨v, w, t, n, hv, hw, hl, hb, he, hs, hd, ht, fun ha hg => ?_, hdup, hn, rfl⟩
  simp [ha, hg] at hc

/-- Settles O26: the ticket that passes the checks is the child that R30 lists. -/
theorem grantViewCreatesChild : Obligations.GrantViewCreatesChild := by
  intro i selector target rights s hi
  refine ⟨fun _ => refused_of_mirrors hi rfl (mirrors_checkGrantView i selector target rights s),
    fun v w h n hc hv hw hh h1 hn hlow => ?_⟩
  obtain ⟨g, hg, he⟩ := acts_of_mirrors (c := .grantView i selector target rights) hi rfl
    (mirrors_checkGrantView i selector target rights s) hc
  obtain ⟨v', w', t, n', hv', hw', -, hb, -, -, -, ht, -, -, hf, rfl⟩ := checkGrantView_ok hg
  cases hv.symm.trans (callerView_eq_ok hv')
  cases hw.symm.trans hw'
  cases hh.symm.trans ht
  obtain rfl := freeSelector_eq hf h1 hn hlow
  refine ⟨_, he, by simp [State.answered], ?_, ?_, ?_⟩
  · exact (s.view?_putView _ _ _).trans (if_pos rfl)
  · have hn : Notice.viewGranted h n' (rightsOf rights) (s.caller i) w.liveLimit
        = ⟨.viewGranted, h, n', .ok, rights, byteOf (s.caller i).code, 0#8, 0#8,
            BitVec.ofNat 32 w.liveLimit⟩ := by
      rw [Notice.viewGranted, toByte_rightsOf hb]
    rw [← hn]
    exact posted_answer (u := s.putView ⟨h, n'⟩ _) rfl [_] i .ok _
  · refine UnchangedBut.answer (p := fun x => x.isNotice ∨ x = .view (ViewId.key ⟨h, n'⟩)) ?_
      (fun _ hx => hx.imp_right .inl) (.inr (.inr rfl))
    exact (unchangedBut_putView s ⟨h, n'⟩ _).trans (unchangedBut_postAll _ [_]) (fun _ => .inr)
      fun _ => .inl

end Sys2Proof.Machine
end

section
/-! SUPPORT. What each command or event can do to the views (`ViewEffect`, `exec_viewEffect`): most leave
the View Table, and every window with its owner and its class (`Calm`); the rest are listed.
-/

namespace Sys2Proof.Machine

variable {s t u : State}

/-! ### What most commands and events leave -/

/-- A window stays with its owner and its class; it becomes LIVE by nothing, and stays CLEARING. -/
structure Window.Outlives (w w' : Window) : Prop where
  owner : w'.owner = w.owner
  cls : w'.cls = w.cls
  live : w'.isLive = true → w.isLive = true
  clearing : w.state = .clearing → w'.state = .clearing

theorem Window.Outlives.refl (w : Window) : w.Outlives w := ⟨rfl, rfl, id, id⟩

theorem Window.Outlives.trans {w w' w'' : Window} (h : w.Outlives w') (g : w'.Outlives w'') :
    w.Outlives w'' :=
  ⟨g.owner.trans h.owner, g.cls.trans h.cls, h.live ∘ g.live, g.clearing ∘ h.clearing⟩

theorem Window.outlives_retired {w : Window} (cause : RetireCause) (hl : w.isLive = true) :
    w.Outlives (w.retired cause) where
  owner := rfl
  cls := rfl
  live _ := hl
  clearing hc := by simp [Window.isLive, hc] at hl

theorem Window.outlives_settled (w : Window) : w.Outlives w.settled where
  owner := by rw [Window.settled_eq]
  cls := by rw [Window.settled_eq]
  live h := w.settled_isLive ▸ h
  clearing hc := by simp [Window.settled_eq, Window.joinsQueue, hc]

/-- The View Table is as it was, and so is what the Retire Engine clears; every window outlives the
change, and none is opened or freed. -/
structure Calm (s t : State) : Prop where
  views : t.dir.views = s.dir.views
  window : ∀ k, Option.Rel Window.Outlives (s.window? k) (t.window? k)
  clearing : t.retire.state.clearing = s.retire.state.clearing

theorem Calm.window_of (h : Calm s t) {k : Nat} {w' : Window} (hw : t.window? k = some w') :
    ∃ w, s.window? k = some w ∧ w.Outlives w' := by
  have hk := h.window k
  rw [hw] at hk
  generalize s.window? k = o at hk
  cases hk with
  | some ho => exact ⟨_, rfl, ho⟩

theorem Calm.window_to (h : Calm s t) {k : Nat} {w : Window} (hw : s.window? k = some w) :
    ∃ w', t.window? k = some w' ∧ w.Outlives w' := by
  have hk := h.window k
  rw [hw] at hk
  generalize t.window? k = o at hk
  cases hk with
  | some ho => exact ⟨_, rfl, ho⟩

/-- The windows and the views are as they were, and so is what the Retire Engine clears. -/
theorem Calm.of_tables (hv : t.dir.views = s.dir.views) (hw : t.dir.windows = s.dir.windows)
    (hr : t.retire.state.clearing = s.retire.state.clearing) : Calm s t where
  views := hv
  window k := by
    rw [show t.window? k = s.window? k by rw [State.window?, hw]; rfl]
    rcases s.window? k with _ | w
    · exact .none
    · exact .some (.refl w)
  clearing := hr

theorem Calm.refl (s : State) : Calm s s := .of_tables rfl rfl rfl

theorem Calm.trans (h : Calm s t) (g : Calm t u) : Calm s u where
  views := g.views.trans h.views
  window k := by
    rcases hk : s.window? k with _ | w
    · rcases hu : u.window? k with _ | w''
      · exact .none
      · obtain ⟨w', hw', -⟩ := g.window_of hu
        obtain ⟨w, hw, -⟩ := h.window_of hw'
        cases hk.symm.trans hw
    · obtain ⟨w', hw', ho⟩ := h.window_to hk
      obtain ⟨w'', hw'', ho'⟩ := g.window_to hw'
      rw [hw'']
      exact .some (ho.trans ho')
  clearing := g.clearing.trans h.clearing

theorem calm_setPort (s : State) (i : PortId) (x : Port) : Calm s (s.setPort i x) :=
  .of_tables rfl rfl rfl

theorem calm_answer (s : State) (i : PortId) (code : ResultCode) (detail : List Byte) :
    Calm s (s.answer i code detail) := .of_tables rfl rfl rfl

theorem Calm.answer (h : Calm s t) (i : PortId) (code : ResultCode) (detail : List Byte) :
    Calm s (t.answer i code detail) := h.trans (calm_answer ..)

theorem Calm.postAll (h : Calm s t) (ns : List Notice) : Calm s (t.postAll ns) :=
  h.trans (.of_tables rfl rfl rfl)

theorem calm_putWindow {k : Nat} {w w' : Window} (hw : s.window? k = some w) (h : w.Outlives w') :
    Calm s (s.putWindow k w') where
  views := rfl
  window j := by
    rw [State.window?_putWindow]
    split
    · rename_i hj
      subst hj
      rw [hw]
      exact .some h
    · exact (Calm.refl s).window j
  clearing := rfl

theorem calm_putQueued {k : Nat} {w w' : Window} {joins : Bool} (hw : s.window? k = some w)
    (h : w.Outlives w') : Calm s (s.putQueued k w' joins) :=
  (calm_putWindow hw h).trans (.of_tables rfl rfl rfl)

theorem calm_foldl {α : Type} (f : State → α → State) (hf : ∀ (s : State) a, Calm s (f s a)) (l : List α)
    (s : State) : Calm s (l.foldl f s) := by
  induction l generalizing s with
  | nil => exact .refl s
  | cons a l ih => exact (hf s a).trans (ih _)

/-! ### The shared operations -/

theorem calm_beginRetirement (s : State) (k : Nat) (cause : RetireCause) :
    Calm s (s.beginRetirement k cause) := by
  rcases hw : s.window? k with _ | w
  · rw [State.beginRetirement_eq, hw]
    exact .refl s
  · by_cases hl : w.isLive = true
    · rw [State.beginRetirement_live cause hw hl]
      exact calm_putQueued hw (w.outlives_retired cause hl)
    · simp only [State.beginRetirement_eq, hw, hl]
      exact .refl s

theorem calm_retireAll (s : State) (cause : RetireCause) (ks : List Nat) :
    Calm s (s.retireAll cause ks) :=
  calm_foldl _ (fun t k => calm_beginRetirement t k cause) ks s

theorem calm_requestExchange {k : Nat} {w : Window} (source : SwapSource) (hw : s.window? k = some w) :
    Calm s (s.requestExchange k w source) := by
  unfold State.requestExchange
  split
  · refine (calm_putWindow hw ?_).postAll _
    exact ⟨rfl, rfl, id, id⟩
  · split
    · exact .refl s
    · exact calm_putWindow hw ⟨rfl, rfl, id, id⟩

theorem calm_lineAction (s : State) (line k : Nat) : Calm s (s.lineAction line k) := by
  unfold State.lineAction
  split
  · exact .refl s
  · split
    · split
      · exact calm_beginRetirement s k .line
      · exact calm_requestExchange .line ‹_›
      · exact .refl s
    · exact .refl s

theorem calm_tickWindow (s : State) (k : Nat) : Calm s (s.tickWindow k) := by
  unfold State.tickWindow
  split
  · exact .refl s
  · rename_i w hw
    split
    · split
      · exact .refl s
      · split
        · refine (calm_putWindow hw ?_).trans (calm_beginRetirement ..)
          exact ⟨rfl, rfl, id, id⟩
        · exact calm_putWindow hw ⟨rfl, rfl, id, id⟩
    · exact .refl s

theorem calm_takeTick (s : State) : Calm s s.takeTick := by
  have h : Calm s { s with events.ticks := s.events.ticks - 1 } := .of_tables rfl rfl rfl
  exact h.trans (calm_foldl _ calm_tickWindow _ _)

theorem calm_quietPoint (s : State) (k : Nat) : Calm s (s.quietPoint k) := by
  rcases hw : s.window? k with _ | w
  · rw [State.quietPoint_eq, hw]
    exact .refl s
  · obtain ⟨ns, h | h⟩ := State.quietPoint_eq_putQueued hw
    · rw [h]
      exact (calm_putQueued hw w.outlives_settled).postAll ns
    · rw [h]
      exact .refl s

theorem calm_setDamaged (s : State) (k : Nat) : Calm s (s.setDamaged k) := by
  rw [State.setDamaged_eq]
  split
  · exact .refl s
  · rename_i w hw
    split
    · exact .refl s
    · refine (calm_putWindow hw ?_).postAll _
      exact ⟨rfl, rfl, id, id⟩

theorem calm_lowerInFlight (s : State) (k : Nat) : Calm s (s.lowerInFlight k) := by
  unfold State.lowerInFlight
  split
  · exact .refl s
  · rename_i w hw
    exact calm_putWindow hw ⟨rfl, rfl, id, id⟩

theorem calm_releasePin (s : State) (k : Nat) : Calm s (s.releasePin k) := by
  unfold State.releasePin
  split
  · exact .refl s
  · rename_i w hw
    exact calm_putWindow hw ⟨rfl, rfl, id, id⟩

theorem calm_pin (s : State) (k : Nat) : Calm s (s.pin k) := by
  unfold State.pin
  split
  · exact .refl s
  · rename_i w hw
    exact calm_putWindow hw ⟨rfl, rfl, id, id⟩

theorem calm_actReset (s : State) (i : PortId) : Calm s (s.actReset i) := .of_tables rfl rfl rfl

theorem calm_lowerTransfer (s : State) (x : Transfer) (c : Completion) : Calm s (s.lowerTransfer x c) := by
  unfold State.lowerTransfer
  split
  · exact (calm_lowerInFlight ..).trans (calm_setDamaged ..)
  · exact calm_lowerInFlight ..

theorem calm_complete (s : State) (i : PortId) (x : Transfer) (c : Completion) :
    Calm s (s.complete i x c) := by
  rw [State.complete_eq]
  have hq := (calm_lowerTransfer s x c).trans (calm_quietPoint _ x.window)
  split
  · exact (hq.trans (calm_setPort _ i _)).trans (calm_actReset _ i)
  · exact hq.trans (calm_setPort _ i _)

theorem calm_releaseMove (s : State) (x : Resolved) : Calm s (s.releaseMove x) := by
  have hr := ((calm_releasePin s x.srcWindow).trans (calm_releasePin _ x.dstWindow)).trans
    (calm_quietPoint _ x.srcWindow)
  unfold State.releaseMove
  split
  · exact hr
  · exact hr.trans (calm_quietPoint ..)

theorem calm_endMove (s : State) (r : MoveRequest) (code : ResultCode) (dataError : Bool) :
    Calm s (s.endMove r code dataError) := by
  have hpost (u : State) (n : Notice) (b : Bool) (queue : List MoveRequest) : Calm u
      { (if b then u else u.post n) with
        move.queue := queue, move.state := .idle, move.corrected := 0 } := by
    cases b <;> exact .of_tables rfl rfl rfl
  unfold State.endMove
  rcases r.resolved with _ | x
  · exact hpost s _ _ _
  · have hd : Calm s (if dataError then s.setDamaged x.srcWindow else s) := by
      split
      · exact calm_setDamaged ..
      · exact .refl s
    exact (hd.trans (calm_releaseMove _ x)).trans (hpost _ _ _ _)

theorem calm_startMove (s : State) (r : MoveRequest) (x : Resolved) : Calm s (s.startMove r x) := by
  have h : Calm s (s.setMoveHead { r with resolved := some x }) := .of_tables rfl rfl rfl
  have hp := (h.trans (calm_pin _ x.srcWindow)).trans (calm_pin _ x.dstWindow)
  exact ⟨hp.views, hp.window, hp.clearing⟩

theorem calm_closeState (s : State) (slot : Nat) (h : Holder) : Calm s (s.closeState slot h) := by
  unfold State.closeState
  split <;> exact .of_tables rfl rfl rfl

theorem calm_closeMoves (s : State) (h : Holder) : Calm s (s.closeMoves h) := .of_tables rfl rfl rfl

theorem calm_takeLineEvent (s : State) (line : Nat) : Calm s (s.takeLineEvent line) :=
  .of_tables rfl rfl rfl

theorem calm_closeIfLast (s : State) (h : Holder) : Calm s (s.closeIfLast h) := by
  unfold State.closeIfLast
  split
  · exact .refl s
  · exact .refl s
  · split
    · exact .of_tables rfl rfl rfl
    · exact .refl s

/-! ### The effects on the views -/

/-- What a command or an event can do to the views and to the windows that they name. -/
inductive ViewEffect (s : State) : State → Prop
  /-- Nothing. -/
  | calm {t : State} (h : Calm s t) : ViewEffect s t
  /-- GRANT VIEW (R30). -/
  | granted {t : State} (i : PortId) (selector target rights : Byte) (g : GrantTicket)
      (hg : checkGrantView i selector target rights s = .ok g)
      (h : Calm (s.putView g.target g.view) t) : ViewEffect s t
  /-- NARROW VIEW (R33, R34). -/
  | narrowed {t : State} (i : PortId) (selector target targetSelector rights : Byte) (x : Nat × Rights)
      (hx : checkNarrowView i selector target targetSelector rights s = .ok x)
      (h : Calm { s with
        dir.views := applyPlan s.dir.views (narrowPlan s.dir.views x.2 Config.treeDepth x.1) } t) :
      ViewEffect s t
  /-- DROP VIEW (R39). -/
  | dropped {t : State} (i : PortId) (selector : Byte) (k : Nat)
      (hk : checkDropView i selector s = .ok k)
      (h : Calm { s with dir.views := voidKeys s.dir.views (subtree s.dir.views k) } t) :
      ViewEffect s t
  /-- CLOSE SLOT: the views of the slot go, and no window of it stays LIVE (R138). -/
  | closed {t : State} (a : Holder) (h : Calm (s.closeViews a) t)
      (hl : ∀ k w, t.window? k = some w → w.isLive = true → w.owner ≠ a) : ViewEffect s t
  /-- OPEN WINDOW (R16). -/
  | opened {t : State} (i : PortId) (a : OpenParams) (x : OpenTicket)
      (hx : checkOpenWindow i a s = .ok x) (h : Calm (s.openWindow x) t) : ViewEffect s t
  /-- The Retire Engine takes a window (R87). -/
  | taken {t : State} (r : RetireRecord) (w : Window) (hw : s.window? r.window = some w)
      (h : Calm { s.putWindow r.window { w with state := .clearing } with
        retire.state := .sweeping r } t) : ViewEffect s t
  /-- The sweep (R88). -/
  | swept {t : State} (r : RetireRecord) (hs : s.retire.state = .sweeping r)
      (h : Calm { s with
        dir.views := voidKeys s.dir.views (windowWalk s.dir.views r.window)
        retire.state := .scrubbing r .requested } t) : ViewEffect s t
  /-- The freeing (R90). -/
  | freed {t : State} (r : RetireRecord) (hs : s.retire.state = .freeing r)
      (h : Calm { s with
        dir.windows := Table.remove s.dir.windows r.window, retire.state := .idle } t) :
      ViewEffect s t
  /-- The device reset (R169). -/
  | reset {t : State} (h : Calm State.reset t) : ViewEffect s t

theorem ViewEffect.refl (s : State) : ViewEffect s s := .calm (.refl s)

/-- A change that leaves the windows, the views and the Retire Engine. -/
theorem ViewEffect.of_tables (hv : t.dir.views = s.dir.views) (hw : t.dir.windows = s.dir.windows)
    (hr : t.retire.state.clearing = s.retire.state.clearing) : ViewEffect s t :=
  .calm (.of_tables hv hw hr)

theorem viewEffect_onPort {i : PortId} {during always : Bool} {act : State}
    (h : ViewEffect s act) : ViewEffect s (s.onPort i during always act) := by
  unfold State.onPort
  split
  · exact .calm (calm_answer ..)
  · exact h

theorem viewEffect_checked {α : Type} {i : PortId} {checks : Except ResultCode α} {act : α → State}
    (h : ∀ a, checks = .ok a → ViewEffect s (act a)) : ViewEffect s (s.checked i checks act) := by
  rcases hc : checks with code | a
  · exact .calm (calm_answer ..)
  · exact h a hc

theorem viewEffect_command {α : Type} {i : PortId} {checks : Except ResultCode α} {act : α → State}
    (h : ∀ a, checks = .ok a → ViewEffect s (act a)) :
    ViewEffect s (s.onIdle i (s.checked i checks act)) :=
  viewEffect_onPort (viewEffect_checked h)

theorem viewEffect_onAPort {i : PortId} {act : State} (h : ViewEffect s act) :
    ViewEffect s (s.onAPort i act) := by
  cases i
  · exact .calm (calm_answer ..)
  · exact .calm (calm_answer ..)
  · exact viewEffect_onPort h

/-! ### Transfers and moves -/

theorem calm_acceptTransfer {kind : TransferKind} {i : PortId} {a : TransferParams} {x : Transfer × Window}
    (h : checkAdmission kind i a s = .ok x) : Calm s (s.acceptTransfer i x.1 x.2) := by
  refine ((calm_putWindow (checkAdmission_ok h).1 ?_).trans (calm_setPort _ i _)).answer ..
  exact ⟨rfl, rfl, id, id⟩

theorem calm_putGrant {i : PortId} {flips : List BitFlip} (h : execPutGrant i flips s = .next t) :
    Calm s t := by
  unfold execPutGrant at h
  split at h
  · cases h
    exact .refl s
  · split at h
    · cases h
    · cases h
      exact .of_tables rfl rfl rfl

theorem calm_fetchGrant {i : PortId} {flips : List BitFlip} (h : execFetchGrant i flips s = .next t) :
    Calm s t := by
  unfold execFetchGrant at h
  split at h
  · cases h
    exact .refl s
  · split at h
    · cases h
    · cases h
      exact .of_tables rfl rfl rfl

theorem calm_transferCompletion {i : PortId} (h : execTransferCompletion i s = .next t) : Calm s t := by
  unfold execTransferCompletion at h
  cases h
  split
  · exact calm_complete ..
  all_goals exact .refl s

theorem calm_startCheck (h : execStartCheck s = .next t) : Calm s t := by
  unfold execStartCheck at h
  cases h
  split
  · exact .refl s
  · split
    · exact calm_endMove ..
    · split
      · exact calm_endMove ..
      · exact calm_startMove ..

theorem calm_fillPatternRead {flips : List BitFlip} (h : execFillPatternRead flips s = .next t) :
    Calm s t := by
  unfold execFillPatternRead at h
  split at h
  · cases h
    exact .refl s
  · split at h
    · cases h
    · cases h
      unfold State.performPattern
      simp only
      split <;> exact .of_tables rfl rfl rfl

theorem calm_chunkCheck (h : execChunkCheck s = .next t) : Calm s t := by
  unfold execChunkCheck at h
  cases h
  split
  · exact .refl s
  · split
    · exact calm_endMove ..
    · exact .of_tables rfl rfl rfl

theorem calm_copyChunk (s : State) (flips : List BitFlip) (r : MoveRequest) (src dst : Nat) :
    Calm s ((s.beginGrant .moveEngine flips).performCopyChunk r src dst) := by
  unfold State.performCopyChunk
  simp only
  split <;> exact .of_tables rfl rfl rfl

theorem calm_moveChunkGrant {flips : List BitFlip} (h : execMoveChunkGrant flips s = .next t) :
    Calm s t := by
  unfold execMoveChunkGrant at h
  split at h
  · cases h
    exact .refl s
  · split at h
    · cases h
    · split at h
      · cases h
        exact .of_tables rfl rfl rfl
      all_goals
        split at h
        · cases h
        · cases h
          exact calm_copyChunk ..

theorem calm_moveTakeHead (h : execMoveTakeHead s = .next t) : Calm s t := by
  unfold execMoveTakeHead at h
  cases h
  split <;> exact .of_tables rfl rfl rfl

theorem calm_moveEnd (h : execMoveEnd s = .next t) : Calm s t := by
  unfold execMoveEnd at h
  cases h
  split
  · exact calm_endMove ..
  · exact calm_endMove ..
  · exact .refl s

/-! ### The Retire Engine and the start of the part -/

theorem viewEffect_retireTakeHead (h : execRetireTakeHead s = .next t) : ViewEffect s t := by
  unfold execRetireTakeHead at h
  cases h
  split
  · exact .refl s
  · rename_i k w c rest hh
    obtain ⟨-, -, hw, -⟩ := retireHead_eq_some hh
    exact .taken (w.retireRecord k c) w hw (.of_tables rfl rfl rfl)

theorem viewEffect_sweep (h : execSweep s = .next t) : ViewEffect s t := by
  unfold execSweep at h
  cases h
  split
  · exact .swept _ ‹_› (.of_tables rfl rfl rfl)
  all_goals exact .refl s

theorem calm_pageScrubGrant (h : execPageScrubGrant s = .next t) : Calm s t := by
  unfold execPageScrubGrant at h
  split at h
  · rename_i hs
    split at h
    · split at h
      · cases h
        exact .of_tables rfl rfl (by rw [hs]; rfl)
      · cases h
    · cases h
      exact .refl s
  all_goals
    cases h
    exact .refl s

theorem calm_pageRelease (h : execPageRelease s = .next t) : Calm s t := by
  unfold execPageRelease at h
  cases h
  split
  · rename_i hs
    simp only
    split <;> exact .of_tables rfl rfl (by rw [hs]; rfl)
  all_goals exact .refl s

theorem viewEffect_windowFreeing (h : execWindowFreeing s = .next t) : ViewEffect s t := by
  unfold execWindowFreeing at h
  cases h
  split
  · rename_i r hs
    have hc := calm_closeIfLast ((s.freeEntry r).post (Notice.retireDone r)) r.owner
    exact .freed r hs ⟨hc.views, hc.window, rfl⟩
  all_goals exact .refl s

theorem calm_startupScrubGrant (h : execStartupScrubGrant s = .next t) : Calm s t := by
  unfold execStartupScrubGrant at h
  split at h
  · cases h
    exact .refl s
  · rename_i page hp
    obtain ⟨stage, hs⟩ := startupPage_eq_some hp
    split at h
    · cases h
      exact .of_tables rfl rfl (by rw [hs]; rfl)
    · cases h

theorem calm_startupPageRelease (h : execStartupPageRelease s = .next t) : Calm s t := by
  unfold execStartupPageRelease at h
  cases h
  split
  · rename_i hs
    split <;> exact .of_tables rfl rfl (by rw [hs]; rfl)
  all_goals exact .refl s

/-! ### The close of an app slot -/

/-- CLOSE SLOT voids the views of the slot and retires its LIVE windows (R138). -/
theorem viewEffect_teardown (s : State) (i : PortId) (slot : Nat) (code : ResultCode)
    (detail : List Byte) : ViewEffect s ((s.teardown slot).answer i code detail) := by
  unfold State.teardown
  generalize Holder.app (Fin.ofNat 32 slot) = a
  have hlate : Calm ((s.closeViews a).closeWindows a)
      (((((s.closeViews a).closeWindows a).closeMoves a).closeState slot a).answer i code detail) :=
    ((calm_closeMoves _ a).trans (calm_closeState ..)).answer ..
  refine .closed a ((calm_retireAll _ _ _).trans hlate) fun k w hw hl ho => ?_
  obtain ⟨w', hw', h⟩ := hlate.window_of hw
  have := retireAll_where hw' (h.live hl)
  simp [h.live hl, h.owner.symm.trans ho] at this

/-! ### Every command and event -/

/-- What a command or an event makes of the views is one of the effects listed. -/
theorem exec_viewEffect {c : Instr} (h : exec c s = .next t) : ViewEffect s t := by
  cases c
  case readStatus =>
    cases h
    exact viewEffect_onPort (.of_tables rfl rfl rfl)
  case readNotice =>
    cases h
    refine viewEffect_onPort ?_
    split <;> exact .of_tables rfl rfl rfl
  case portReset =>
    cases h
    refine viewEffect_onPort ?_
    split <;> exact .of_tables rfl rfl rfl
  case loadStaging =>
    cases h
    split
    · exact viewEffect_command fun _ _ => .of_tables rfl rfl rfl
    · exact .of_tables rfl rfl rfl
  case put =>
    cases h
    exact viewEffect_command fun _ hx => .calm (calm_acceptTransfer hx)
  case fetch =>
    cases h
    exact viewEffect_command fun _ hx => .calm (calm_acceptTransfer hx)
  case openWindow i a =>
    cases h
    exact viewEffect_command fun x hx => .opened i a x hx (calm_answer ..)
  case grantView i selector target rights =>
    cases h
    exact viewEffect_command fun g hg =>
      .granted i selector target rights g hg (.of_tables rfl rfl rfl)
  case narrowView i selector target targetSelector rights =>
    cases h
    exact viewEffect_command fun x hx =>
      .narrowed i selector target targetSelector rights x hx (.of_tables rfl rfl rfl)
  case dropView i selector =>
    cases h
    exact viewEffect_command fun k hk => .dropped i selector k hk (.of_tables rfl rfl rfl)
  case retireWindow =>
    cases h
    exact viewEffect_command fun _ _ => .calm ((calm_beginRetirement ..).answer ..)
  case renew =>
    cases h
    refine viewEffect_command fun _ hx => .calm ((calm_putWindow (checkOwner_ok hx).1 ?_).answer ..)
    exact ⟨rfl, rfl, id, id⟩
  case stageLimit =>
    cases h
    refine viewEffect_command fun x hx => .calm ((calm_putWindow
      (checkSwapper_ok (checkStageLimit_ok hx).1).1 ?_).answer ..)
    rw [Window.setBank_eq]
    exact ⟨rfl, rfl, id, id⟩
  case swapBanks =>
    cases h
    exact viewEffect_command fun _ hx => .calm
      ((calm_requestExchange .holder (checkSwapper_ok hx).1).answer ..)
  case selectApp =>
    cases h
    refine viewEffect_onAPort (viewEffect_checked fun _ _ => .calm (Calm.answer ?_ _ _ _))
    unfold State.selectApp
    split <;> exact .of_tables rfl rfl rfl
  case openSlot =>
    cases h
    exact viewEffect_onAPort (viewEffect_checked fun _ _ => .of_tables rfl rfl rfl)
  case closeSlot =>
    cases h
    exact viewEffect_onAPort (viewEffect_checked fun _ _ => viewEffect_teardown ..)
  case frameRejected =>
    cases h
    split <;> exact .of_tables rfl rfl rfl
  case frameDiscarded =>
    cases h
    split <;> exact .of_tables rfl rfl rfl
  case deviceReset =>
    cases h
    exact .reset (.of_tables rfl rfl rfl)
  case startupScrubGrant => exact .calm (calm_startupScrubGrant h)
  case startupPageRelease => exact .calm (calm_startupPageRelease h)
  case scrubEnd =>
    cases h
    split <;> exact .of_tables rfl rfl rfl
  case putGrant => exact .calm (calm_putGrant h)
  case fetchGrant => exact .calm (calm_fetchGrant h)
  case transferCompletion => exact .calm (calm_transferCompletion h)
  case moveTakeHead => exact .calm (calm_moveTakeHead h)
  case startCheck => exact .calm (calm_startCheck h)
  case fillPatternRead => exact .calm (calm_fillPatternRead h)
  case chunkCheck => exact .calm (calm_chunkCheck h)
  case moveChunkGrant => exact .calm (calm_moveChunkGrant h)
  case moveEnd => exact .calm (calm_moveEnd h)
  case retireTakeHead => exact viewEffect_retireTakeHead h
  case sweep => exact viewEffect_sweep h
  case pageScrubGrant => exact .calm (calm_pageScrubGrant h)
  case pageRelease => exact .calm (calm_pageRelease h)
  case windowFreeing => exact viewEffect_windowFreeing h
  case lineEdge =>
    cases h
    split <;> exact .of_tables rfl rfl rfl
  case lineEvent =>
    cases h
    split
    · exact .calm ((calm_takeLineEvent ..).trans
        (calm_foldl _ (fun t k => calm_lineAction t _ k) _ _))
    · exact .refl s
  case tamperLineEvent =>
    cases h
    split
    · rename_i line _
      have hlatch : Calm s { s.takeLineEvent line.val with dir.tamper := true } := .of_tables rfl rfl rfl
      exact .calm ((hlatch.trans (calm_retireAll _ _ _)).postAll _)
    · exact .refl s
  case tick =>
    cases h
    split
    · exact .refl s
    · exact .calm (calm_takeTick s)
  case lifetimeExpiry =>
    cases h
    split
    · exact .refl s
    · split
      · exact .calm (calm_takeTick s)
      · exact .refl s
  case tickEmit =>
    cases h
    exact .of_tables rfl rfl rfl
  case clearStaging =>
    cases h
    exact viewEffect_onPort (.of_tables rfl rfl rfl)
  case readStaging | move | describeView | setPools | setQuota | setLine | lockPolicy | clearTamper =>
    cases h
    exact viewEffect_command fun _ _ => .of_tables rfl rfl rfl

/-- A step is what its command or event does to the views, with the rest of the queue waiting. -/
theorem step_viewEffect (h : step s = .next t) :
    ∃ rest, ViewEffect { s with pending := rest } t := by
  unfold step at h
  split at h
  · cases h
    exact ⟨s.pending, .refl s⟩
  · exact ⟨_, exec_viewEffect h⟩

end Sys2Proof.Machine
end

section
/-! SUPPORT. The grant trees keep their shape under every step (R23, R25, R33, R37).
-/

namespace Sys2Proof.Machine

variable {views views' : Table View} {s t : State}

/-! ### A view granted -/

/-- A table with more views serves each of its views as well. -/
theorem View.Sound.mono {x : View} (h : x.Sound views)
    (hv : ∀ {k y}, Table.at? views k = some y → Table.at? views' k = some y) : x.Sound views' where
  rights := h.rights
  root := h.root
  child hr := by
    obtain ⟨p, q, hp, hin, hq, hrest⟩ := h.child hr
    exact ⟨p, q, hp, hin, hv hq, hrest⟩

/-- A sound view at a VOID place in range keeps the shape of the trees. -/
theorem GrantTable.put (h : GrantTable views) {v : ViewId} {x : View} (hv : v.inRange)
    (hn : Table.at? views v.key = none) (hx : x.Sound views) :
    GrantTable (Table.put views v.key x) := by
  have hkeep {k : Nat} {y : View} (hy : Table.at? views k = some y) :
      Table.at? (Table.put views v.key x) k = some y := by
    rw [Table.at?_put, if_neg, hy]
    rintro rfl
    cases hn.symm.trans hy
  have hcases {k : Nat} {y : View} (hy : Table.at? (Table.put views v.key x) k = some y) :
      (v.key = k ∧ x = y) ∨ Table.at? views k = some y := by
    rw [Table.at?_put] at hy
    split at hy
    · exact .inl ⟨‹_›, Option.some.inj hy⟩
    · exact .inr hy
  refine ⟨Table.rising_put _ _ _ h.rising, fun hy => ?_, fun hy => ?_⟩
  · rcases hcases hy with ⟨rfl, -⟩ | hy
    · exact ⟨v, hv, rfl⟩
    · exact h.place hy
  · rcases hcases hy with ⟨-, rfl⟩ | hy
    · exact hx.mono hkeep
    · exact (h.sound hy).mono hkeep

/-! ### Views voided or narrowed -/

/-- Views may go, and may lose rights, where none is left without rights and none keeps a right that its
parent loses (R33, R37). -/
theorem GrantTable.thinned (h : GrantTable views) (hr : Table.rising views' = true)
    (hv : ∀ {j x'}, Table.at? views' j = some x' → ∃ x, Table.at? views j = some x
      ∧ x' = { x with rights := x'.rights } ∧ x'.rights.isEmpty = false
      ∧ ∀ q y, ParentStep views j q → Table.at? views q = some y →
          ∃ p, Table.at? views' q = some { y with rights := p } ∧ x'.rights.subset p = true) :
    GrantTable views' where
  rising := hr
  place hx' := by
    obtain ⟨x, hx, -⟩ := hv hx'
    exact h.place hx
  sound {j x'} hx' := by
    obtain ⟨x, hx, e, hne, hpar⟩ := hv hx'
    have hs := h.sound hx
    rw [e]
    refine ⟨hne, hs.root, fun hroot => ?_⟩
    obtain ⟨p, q, hp, hin, hq, hw, -, hd⟩ := hs.child hroot
    obtain ⟨r, hq', hsub⟩ := hpar p.key q (by simp [ParentStep, hx, hp]) hq
    exact ⟨p, { q with rights := r }, hp, hin, hq', hw, hsub, hd⟩

/-- Views may be voided together with all that is granted from them (R37). -/
theorem GrantTable.voided (h : GrantTable views) {ks : List Nat}
    (hks : ∀ {j q}, ParentStep views j q → q ∈ ks → j ∈ ks) : GrantTable (voidKeys views ks) := by
  refine h.thinned (Table.rising_filter _ _ h.rising) fun {j x} hx => ?_
  rw [at?_voidKeys, Option.ite_none_left_eq_some] at hx
  obtain ⟨hj, hx⟩ := hx
  refine ⟨x, hx, rfl, (h.sound hx).rights, fun q y hs hy => ?_⟩
  obtain ⟨x', y', hx', hy', -, hsub, -⟩ := h.parent hs
  cases hx.symm.trans hx'
  cases hy.symm.trans hy'
  exact ⟨y.rights, by rw [at?_voidKeys, if_neg (mt (hks hs) hj), hy], hsub⟩

/-- What is granted from a view of a subtree is in it (R37). -/
theorem GrantTable.mem_subtree_of_parent (h : GrantTable views) {k j q : Nat} {v : View}
    (hk : Table.at? views k = some v) (hs : ParentStep views j q) (hq : q ∈ subtree views k) :
    j ∈ subtree views k :=
  (h.mem_subtree hk).2 (.head hs ((h.mem_subtree hk).1 hq))

theorem GrantTable.voidSubtree (h : GrantTable views) {k : Nat} {v : View}
    (hk : Table.at? views k = some v) : GrantTable (voidKeys views (subtree views k)) :=
  h.voided (h.mem_subtree_of_parent hk)

theorem GrantTable.voidWindow (h : GrantTable views) (w : Nat) :
    GrantTable (voidKeys views (windowWalk views w)) := by
  refine h.voided fun {j q} hs hq => ?_
  obtain ⟨x, y, hx, hy, hw, -⟩ := h.parent hs
  obtain ⟨y', hy', hyw⟩ := (mem_windowWalk h.rising w q).1 hq
  cases hy.symm.trans hy'
  exact (mem_windowWalk h.rising w j).2 ⟨x, hx, hw.symm.trans hyw⟩

/-- A narrowing writes no new key. -/
theorem rising_applyPlan (h : Table.rising views = true) (plan : List (Nat × NarrowAct)) :
    Table.rising (applyPlan views plan) = true := by
  rw [Table.rising_iff] at h ⊢
  refine h.filterMap _ fun a a' hlt b hb b' hb' => ?_
  have h1 : b.1 = a.1 := by split at hb <;> cases hb <;> rfl
  have h2 : b'.1 = a'.1 := by split at hb' <;> cases hb' <;> rfl
  rw [h1, h2]
  exact hlt

/-- A narrowing leaves no view a right that its parent has lost (R33). -/
theorem GrantTable.narrowed (h : GrantTable views) {k : Nat} {v : View}
    (hk : Table.at? views k = some v) (r : Rights) :
    GrantTable (applyPlan views (narrowPlan views r Config.treeDepth k)) := by
  refine h.thinned (rising_applyPlan h.rising _) fun {j x'} hx' => ?_
  rw [h.at?_narrowed hk] at hx'
  by_cases hj : j ∈ subtree views k
  · rw [if_pos hj] at hx'
    obtain ⟨x, hx, hx'⟩ := Option.bind_eq_some_iff.1 hx'
    rw [Option.ite_none_left_eq_some] at hx'
    obtain ⟨hne, rfl⟩ := hx'.imp_right Option.some.inj
    refine ⟨x, hx, rfl, Bool.not_eq_true _ ▸ hne, fun q y hs hy => ?_⟩
    obtain ⟨x', y', hx', hy', -, hsub, -⟩ := h.parent hs
    cases hx.symm.trans hx'
    cases hy.symm.trans hy'
    rw [h.at?_narrowed hk, hy]
    by_cases hq : q ∈ subtree views k
    · have hney : ¬(y.rights.inter r).isEmpty = true := fun he =>
        hne (Rights.isEmpty_of_subset (Rights.inter_subset_inter hsub r) he)
      exact ⟨y.rights.inter r, by rw [if_pos hq, Option.bind_some, if_neg hney],
        Rights.inter_subset_inter hsub r⟩
    · exact ⟨y.rights, by rw [if_neg hq],
        Rights.subset_trans (Rights.inter_subset_left x.rights r) hsub⟩
  · rw [if_neg hj] at hx'
    refine ⟨x', hx', rfl, (h.sound hx').rights, fun q y hs hy => ?_⟩
    obtain ⟨x, y', hx, hy', -, hsub, -⟩ := h.parent hs
    cases hx'.symm.trans hx
    cases hy.symm.trans hy'
    have hq : q ∉ subtree views k := mt (h.mem_subtree_of_parent hk hs) hj
    exact ⟨y.rights, by rw [h.at?_narrowed hk, if_neg hq, hy], hsub⟩

/-! ### Places found -/

/-- The lowest VOID selector is in its holder's range (R22). -/
theorem freeSelector_eq_some {a : Holder} {n : Nat} (h : s.freeSelector a = some n) :
    ViewId.inRange ⟨a, n⟩ ∧ s.view? ⟨a, n⟩ = none := by
  unfold State.freeSelector at h
  obtain ⟨m, hm, rfl⟩ := List.mem_map.1 (List.mem_of_find?_eq_some h)
  have hvoid : (s.view? ⟨a, m + 1⟩).isNone = true := List.find?_some (p := fun n =>
    (s.view? ⟨a, n⟩).isNone) h
  exact ⟨⟨Nat.le_add_left 1 m, List.mem_range.1 hm⟩, Option.isNone_iff_eq_none.1 hvoid⟩

/-- The caller's view stands in the caller's range (R22, R29). -/
theorem callerView_inRange {a : Holder} {selector : Byte} {v : View}
    (h : s.callerView a selector = .ok v) : ViewId.inRange ⟨a, selector.toNat⟩ := by
  simp only [State.callerView, Checks.bind_eq_ok, require_eq_ok, decide_eq_true_eq] at h
  obtain ⟨-, -, -, h0, -, hr, -⟩ := h
  refine ⟨Nat.pos_of_ne_zero fun e => h0 (BitVec.eq_of_toNat_eq e), hr⟩

/-! ### Every step -/

/-- The child that GRANT VIEW makes is sound (R25, R29, R30). -/
theorem granted_sound {i : PortId} {selector target rights : Byte} {g : GrantTicket}
    (h : checkGrantView i selector target rights s = .ok g) :
    g.target.inRange ∧ s.view? g.target = none ∧ g.view.Sound s.dir.views := by
  obtain ⟨v, w, t, n, hv, -, -, -, hne, hsub, hd, -, -, -, hn, rfl⟩ := checkGrantView_ok h
  obtain ⟨hin, hvoid⟩ := freeSelector_eq_some hn
  exact ⟨hin, hvoid, hne, fun hr => (nomatch hr), fun _ => ⟨_, v, rfl, callerView_inRange hv,
    callerView_eq_ok hv, rfl, hsub, rfl, Nat.succ_le_of_lt hd⟩⟩

/-- The root that OPEN WINDOW makes is sound (R16, R25). -/
theorem opened_sound {i : PortId} {a : OpenParams} {x : OpenTicket}
    (h : checkOpenWindow i a s = .ok x) :
    ViewId.inRange ⟨x.owner, x.selector⟩ ∧ s.view? ⟨x.owner, x.selector⟩ = none
      ∧ x.root.Sound s.dir.views := by
  obtain ⟨ho, -, hn, -⟩ := checkOpenWindow_found h
  rw [← ho] at hn
  obtain ⟨hin, hvoid⟩ := freeSelector_eq_some hn
  exact ⟨hin, hvoid, rfl, fun _ => ⟨rfl, rfl⟩, fun hr => nomatch hr⟩

/-- What holds of a part, and after each view that CLOSE SLOT voids, holds after all of them (R138). -/
theorem closeViews_keeps {P : State → Prop} (a : Holder)
    (hP : ∀ u n v, P u → ViewId.inRange ⟨a, n⟩ → u.view? ⟨a, n⟩ = some v →
      ∀ ns, P (State.postAll { u with
        dir.views := voidKeys u.dir.views (subtree u.dir.views (ViewId.key ⟨a, n⟩)) } ns))
    (hs : P s) : P (s.closeViews a) := by
  unfold State.closeViews
  have hl : ∀ n ∈ (List.range a.selectorRange).map (· + 1), ViewId.inRange ⟨a, n⟩ := by
    simp only [List.mem_map, List.mem_range, ViewId.inRange]
    omega
  generalize (List.range a.selectorRange).map (· + 1) = l at hl
  induction l generalizing s with
  | nil => exact hs
  | cons n l ih =>
    refine ih ?_ fun m hm => hl m (List.mem_cons_of_mem _ hm)
    simp only [State.closeView]
    split
    · exact hs
    · exact hP s n _ hs (hl n (List.mem_cons_self ..)) ‹_› _

theorem GrantTable.closeViews (h : GrantTable s.dir.views) (a : Holder) :
    GrantTable (s.closeViews a).dir.views :=
  closeViews_keeps (P := fun u => GrantTable u.dir.views) a
    (fun _ _ _ hu _ hv _ => hu.voidSubtree hv) h

theorem grantTable_nil : GrantTable [] :=
  ⟨rfl, fun h => (nomatch h), fun h => (nomatch h)⟩

/-- The grant trees keep their shape whatever a command or an event does to the views. -/
theorem GrantTable.viewEffect (h : GrantTable s.dir.views) (he : ViewEffect s t) :
    GrantTable t.dir.views := by
  cases he with
  | calm hc => exact hc.views ▸ h
  | granted _ _ _ _ g hg hc =>
    obtain ⟨hin, hvoid, hsound⟩ := granted_sound hg
    exact hc.views ▸ h.put hin hvoid hsound
  | narrowed _ _ _ _ _ x hx hc =>
    obtain ⟨-, v, -, -, hv, -⟩ := checkNarrowView_ok hx
    exact hc.views ▸ h.narrowed hv x.2
  | dropped _ _ k hk hc =>
    obtain ⟨-, v, hv, -⟩ := checkDropView_ok hk
    exact hc.views ▸ h.voidSubtree hv
  | closed a hc => exact hc.views ▸ h.closeViews a
  | opened _ _ x hx hc =>
    obtain ⟨hin, hvoid, hsound⟩ := opened_sound hx
    exact hc.views ▸ h.put hin hvoid hsound
  | taken _ _ _ hc => exact hc.views ▸ h
  | swept r _ hc => exact hc.views ▸ h.voidWindow r.window
  | freed _ _ hc => exact hc.views ▸ h
  | reset hc => exact hc.views ▸ grantTable_nil

end Sys2Proof.Machine
end

section
/-! SUPPORT. Every step keeps the views anchored (R27, R28, R88) and the roots held (R25, R26), and with them
the two statements on the grant trees and the views.
-/

namespace Sys2Proof.Machine

variable {views views' : Table View} {s t : State}

/-! ### Views that go -/

/-- Every view of the second table is one of the first, but for its rights. -/
def Thins (views views' : Table View) : Prop :=
  ∀ j x', Table.at? views' j = some x' →
    ∃ x, Table.at? views j = some x ∧ x'.window = x.window ∧ x'.root = x.root

theorem Thins.trans {views'' : Table View} (h : Thins views views') (g : Thins views' views'') :
    Thins views views'' := fun j x'' hx'' => by
  obtain ⟨x', hx', hw', hr'⟩ := g j x'' hx''
  obtain ⟨x, hx, hw, hr⟩ := h j x' hx'
  exact ⟨x, hx, hw'.trans hw, hr'.trans hr⟩

theorem thins_voidKeys (views : Table View) (ks : List Nat) : Thins views (voidKeys views ks) :=
  fun j x hx => by
    rw [at?_voidKeys, Option.ite_none_left_eq_some] at hx
    exact ⟨x, hx.2, rfl, rfl⟩

theorem thins_applyPlan (views : Table View) (plan : List (Nat × NarrowAct)) :
    Thins views (applyPlan views plan) := fun j x' hx' => by
  rw [at?_applyPlan] at hx'
  obtain ⟨x, hx, hl⟩ := Option.bind_eq_some_iff.1 hx'
  refine ⟨x, hx, ?_⟩
  rcases hp : Table.at? plan j with _ | ⟨before, after⟩ | cause <;> rw [hp] at hl
  · cases hl
    exact ⟨rfl, rfl⟩
  · cases hl
    exact ⟨rfl, rfl⟩
  · cases hl

/-- The close of a slot's views touches views alone, and opens none (R138). -/
theorem closeViews_thins (s : State) (a : Holder) :
    (s.closeViews a).dir.windows = s.dir.windows ∧ (s.closeViews a).retire = s.retire
      ∧ Thins s.dir.views (s.closeViews a).dir.views :=
  closeViews_keeps (P := fun u => u.dir.windows = s.dir.windows ∧ u.retire = s.retire
      ∧ Thins s.dir.views u.dir.views) a
    (fun _ _ _ ⟨hw, hr, hv⟩ _ _ _ => ⟨hw, hr, hv.trans (thins_voidKeys _ _)⟩)
    ⟨rfl, rfl, fun _ x hx => ⟨x, hx, rfl, rfl⟩⟩

/-! ### Views stay anchored -/

/-- What `ViewsAnchored` asks is kept where no view is granted. -/
theorem ViewsAnchored.thinned (h : ViewsAnchored s) (hv : Thins s.dir.views t.dir.views)
    (hw : t.dir.windows = s.dir.windows) (hr : t.retire.state = s.retire.state) : ViewsAnchored t := by
  obtain ⟨hname, hone, hclear⟩ := h
  have hwin (k : Nat) : t.window? k = s.window? k := congrArg (Table.at? · k) hw
  refine ⟨fun v x' hin hx' => ?_, fun v u x' y' hin hin' ho hx' hy' hxy => ?_, fun k swept hk => ?_⟩
  · obtain ⟨x, hx, e, -⟩ := hv _ _ hx'
    rw [e, hwin]
    exact hname v x hin hx
  · obtain ⟨x, hx, ex, -⟩ := hv _ _ hx'
    obtain ⟨y, hy, ey, -⟩ := hv _ _ hy'
    exact hone v u x y hin hin' ho hx hy (ex.symm.trans (hxy.trans ey))
  · rw [hr] at hk
    obtain ⟨hc, hswept⟩ := hclear k swept hk
    refine ⟨by rwa [hwin], fun hs v x' hin hx' => ?_⟩
    obtain ⟨x, hx, e, -⟩ := hv _ _ hx'
    rw [e]
    exact hswept hs v x hin hx

theorem ViewsAnchored.calm (h : ViewsAnchored s) (hc : Calm s t) : ViewsAnchored t := by
  obtain ⟨hname, hone, hclear⟩ := h
  have hview (v : ViewId) : t.view? v = s.view? v := congrArg (Table.at? · v.key) hc.views
  refine ⟨fun v x hin hx => ?_, fun v u x y hin hin' ho hx hy => ?_, fun k swept hk => ?_⟩
  · obtain ⟨w, hw, hcls⟩ := hname v x hin (hview v ▸ hx)
    obtain ⟨w', hw', ho⟩ := hc.window_to hw
    exact ⟨w', hw', fun ha => ho.cls.symm ▸ hcls ha⟩
  · exact hone v u x y hin hin' ho (hview v ▸ hx) (hview u ▸ hy)
  · obtain ⟨⟨w, hw, hs⟩, hswept⟩ := hclear k swept (hc.clearing ▸ hk)
    obtain ⟨w', hw', ho⟩ := hc.window_to hw
    exact ⟨⟨w', hw', ho.clearing hs⟩, fun h v x hin hx => hswept h v x hin (hview v ▸ hx)⟩

/-- A view may be put at a place in range whose holder has no view of its window and may hold one, where
the window is not being cleared (R27, R28). -/
theorem ViewsAnchored.putView (h : ViewsAnchored s) {v : ViewId} {x : View} {w : Window}
    (hw : s.window? x.window = some w) (hcls : v.holder.isA = true → w.cls ≠ .guarded)
    (hdup : ∀ u y, u.inRange → u.holder = v.holder → s.view? u = some y → y.window ≠ x.window)
    (hs : w.state ≠ .clearing) (hv : v.inRange) : ViewsAnchored (s.putView v x) := by
  obtain ⟨hname, hone, hclear⟩ := h
  have hcases {u : ViewId} {y : View} (hu : u.inRange) (hy : (s.putView v x).view? u = some y) :
      (u = v ∧ y = x) ∨ s.view? u = some y := by
    rw [State.view?_putView] at hy
    split at hy
    · rename_i e
      exact .inl ⟨(ViewId.key_injective hv.selector_lt hu.selector_lt e).symm, (Option.some.inj hy).symm⟩
    · exact .inr hy
  refine ⟨fun u y hu hy => ?_, fun u u' y y' hu hu' ho hy hy' hyy => ?_, fun k swept hk => ?_⟩
  · rcases hcases hu hy with ⟨rfl, rfl⟩ | hy
    · exact ⟨w, hw, hcls⟩
    · exact hname u y hu hy
  · rcases hcases hu hy with ⟨rfl, rfl⟩ | hold <;> rcases hcases hu' hy' with ⟨rfl, rfl⟩ | hold'
    · rfl
    · exact absurd hyy.symm (hdup u' y' hu' ho.symm hold')
    · exact absurd hyy (hdup u y hu ho hold)
    · exact hone u u' y y' hu hu' ho hold hold' hyy
  · obtain ⟨⟨w', hw', hs'⟩, hswept⟩ := hclear k swept hk
    refine ⟨⟨w', hw', hs'⟩, fun h u y hu hy => ?_⟩
    rcases hcases hu hy with ⟨rfl, rfl⟩ | hy
    · rintro rfl
      cases hw.symm.trans hw'
      exact hs hs'
    · exact hswept h u y hu hy

/-- A window may be put at a FREE index (R1, R16). -/
theorem ViewsAnchored.putWindow (h : ViewsAnchored s) {k : Nat} (w : Window)
    (hk : s.window? k = none) : ViewsAnchored (s.putWindow k w) := by
  obtain ⟨hname, hone, hclear⟩ := h
  have hkeep {j : Nat} {w' : Window} (hj : s.window? j = some w') :
      (s.putWindow k w).window? j = some w' := by
    rw [State.window?_putWindow, if_neg, hj]
    rintro rfl
    cases hk.symm.trans hj
  refine ⟨fun v x hin hx => ?_, hone, fun j swept hj => ?_⟩
  · obtain ⟨w', hw', hcls⟩ := hname v x hin hx
    exact ⟨w', hkeep hw', hcls⟩
  · obtain ⟨⟨w', hw', hs⟩, hswept⟩ := hclear j swept hj
    exact ⟨⟨w', hkeep hw', hs⟩, hswept⟩

/-- No view names a FREE window. -/
theorem ViewsAnchored.window_ne (h : ViewsAnchored s) {k : Nat} (hk : s.window? k = none) {v : ViewId}
    {x : View} (hv : v.inRange) (hx : s.view? v = some x) : x.window ≠ k := by
  rintro rfl
  obtain ⟨w, hw, -⟩ := h.1 v x hv hx
  cases hk.symm.trans hw

/-- The holder to whom a view is granted has none of its window (R29 check 11). -/
theorem holdsViewOf_eq_false {a : Holder} {k : Nat} (h : s.holdsViewOf a k = false) {u : ViewId}
    {y : View} (hu : u.inRange) (ho : u.holder = a) (hy : s.view? u = some y) : y.window ≠ k := by
  intro e
  subst ho
  rw [State.holdsViewOf, any_from_one, List.any_eq_false] at h
  have hsel : u.selector - 1 + 1 = u.selector := Nat.sub_add_cancel hu.1
  refine h (u.selector - 1) (List.mem_range.2 (by have := hu.2; omega)) (decide_eq_true ?_)
  rw [hsel, show s.view? ⟨u.holder, u.selector⟩ = some y from hy, Option.map_some, e]

theorem Window.isLive_ne_clearing {w : Window} (h : w.isLive = true) : w.state ≠ .clearing := by
  intro e
  simp [Window.isLive, e] at h

theorem ViewsAnchored.granted (h : ViewsAnchored s) {i : PortId}
    {selector target rights : Byte} {g : GrantTicket}
    (hg : checkGrantView i selector target rights s = .ok g) :
    ViewsAnchored (s.putView g.target g.view) := by
  obtain ⟨hin, -, -⟩ := granted_sound hg
  obtain ⟨v, w, t, n, -, hw, hl, -, -, -, -, -, hcls, hdup, -, rfl⟩ := checkGrantView_ok hg
  exact h.putView hw hcls (fun u y hu ho hy => holdsViewOf_eq_false hdup hu ho hy)
    (Window.isLive_ne_clearing hl) hin

/-- The new window is at a FREE index, and no A-holder opens a GUARDED one (R13, R28). -/
theorem opened_window {i : PortId} {a : OpenParams} {x : OpenTicket}
    (h : checkOpenWindow i a s = .ok x) :
    s.window? x.index = none ∧ (x.owner.isA = true → x.window.cls ≠ .guarded) := by
  simp only [checkOpenWindow, Checks.bind_eq_ok, require_eq_ok, found_eq_ok, Checks.pure_eq,
    Except.ok.injEq] at h
  obtain ⟨-, -, -, -, r, -, -, hcls, -, -, n, -, k, hk, -, -, -, -, place, -, rfl⟩ := h
  refine ⟨freeWindow_eq_some hk, fun ha hg => ?_⟩
  simp [ha, show r.cls = .guarded from hg] at hcls

theorem ViewsAnchored.opened (h : ViewsAnchored s) {i : PortId} {a : OpenParams} {x : OpenTicket}
    (hx : checkOpenWindow i a s = .ok x) : ViewsAnchored (s.openWindow x) := by
  obtain ⟨hin, -, -⟩ := opened_sound hx
  obtain ⟨hfree, hcls⟩ := opened_window hx
  have hplaced : ViewsAnchored ((s.putWindow x.index x.window).putView ⟨x.owner, x.selector⟩ x.root) :=
    (h.putWindow x.window hfree).putView (State.window?_putWindow_same ..) hcls
      (fun u y hu _ hy => h.window_ne hfree hu hy) (by simp [OpenTicket.window]) hin
  exact hplaced.calm (.of_tables rfl rfl rfl)

/-- The walk of a window meets each of its views, whatever the shape of the table (R88). -/
theorem mem_windowWalk_of_view {w j : Nat} {x : View} (hx : Table.at? views j = some x)
    (hw : x.window = w) : j ∈ windowWalk views w := by
  have hj : j ∈ keysWhere views fun x => decide (x.window = w) :=
    List.mem_map.2 ⟨(j, x), List.mem_filter.2 ⟨Table.mem_of_at? hx, decide_eq_true hw⟩, rfl⟩
  rw [windowWalk_split]
  refine List.mem_append.2 ?_
  by_cases hwalk : j ∈ ((rootsOf views w).flatMap (subtree views)).filter fun k =>
      (keysWhere views fun x => decide (x.window = w)).contains k
  · exact .inl hwalk
  · refine .inr (List.mem_filter.2 ⟨hj, ?_⟩)
    rw [Bool.not_eq_true', Bool.eq_false_iff, Ne, List.contains_iff_mem]
    exact hwalk

/-- No view outlives the sweep of its window (R88). -/
theorem ViewsAnchored.swept (h : ViewsAnchored s) {r : RetireRecord}
    (hs : s.retire.state = .sweeping r) : ViewsAnchored { s with
      dir.views := voidKeys s.dir.views (windowWalk s.dir.views r.window)
      retire.state := .scrubbing r .requested } := by
  obtain ⟨hname, hone, hclear⟩ := h
  obtain ⟨hc, -⟩ := hclear r.window false (by rw [hs]; rfl)
  have hthin : ViewsAnchored { s with
      dir.views := voidKeys s.dir.views (windowWalk s.dir.views r.window) } :=
    ViewsAnchored.thinned ⟨hname, hone, hclear⟩ (thins_voidKeys _ _) rfl rfl
  obtain ⟨hname', hone', -⟩ := hthin
  refine ⟨hname', hone', fun k swept hk => ?_⟩
  cases hk
  refine ⟨hc, fun _ v x _ hx hw => ?_⟩
  have hx' : Table.at? (voidKeys s.dir.views (windowWalk s.dir.views r.window)) v.key = some x := hx
  rw [at?_voidKeys, Option.ite_none_left_eq_some] at hx'
  exact hx'.1 (mem_windowWalk_of_view hx'.2 hw)

/-- The window that the engine takes becomes CLEARING (R87). -/
theorem ViewsAnchored.taken (h : ViewsAnchored s) {r : RetireRecord} {w : Window}
    (hw : s.window? r.window = some w) : ViewsAnchored
      { s.putWindow r.window { w with state := .clearing } with retire.state := .sweeping r } := by
  obtain ⟨hname, hone, -⟩ := h
  refine ⟨fun v x hin hx => ?_, hone, fun k swept hk => ?_⟩
  · obtain ⟨w', hw', hcls⟩ := hname v x hin hx
    have hk := State.window?_putWindow s r.window x.window { w with state := .clearing }
    split at hk
    · rename_i e
      rw [← e, hw] at hw'
      cases hw'
      exact ⟨_, hk, hcls⟩
    · exact ⟨w', hk.trans hw', hcls⟩
  · cases hk
    exact ⟨⟨_, State.window?_putWindow_same .., rfl⟩, fun h => nomatch h⟩

/-- No view names the window that is freed (R88, R90). -/
theorem ViewsAnchored.window_ne_freed (h : ViewsAnchored s) {r : RetireRecord}
    (hs : s.retire.state = .freeing r) {v : ViewId} {x : View} (hv : v.inRange)
    (hx : s.view? v = some x) : x.window ≠ r.window :=
  (h.2.2 r.window true (by rw [hs]; rfl)).2 rfl v x hv hx

theorem window?_freed (s : State) (r : RetireRecord) (k : Nat) :
    State.window? { s with
      dir.windows := Table.remove s.dir.windows r.window, retire.state := .idle } k
        = if k = r.window then none else s.window? k := Table.at?_remove ..

theorem ViewsAnchored.freed (h : ViewsAnchored s) {r : RetireRecord}
    (hs : s.retire.state = .freeing r) : ViewsAnchored { s with
      dir.windows := Table.remove s.dir.windows r.window, retire.state := .idle } := by
  refine ⟨fun v x hin hx => ?_, h.2.1, fun k swept hk => nomatch hk⟩
  obtain ⟨w, hw, hcls⟩ := h.1 v x hin hx
  rw [window?_freed, if_neg (h.window_ne_freed hs hin hx)]
  exact ⟨w, hw, hcls⟩

theorem viewsAnchored_reset : ViewsAnchored State.reset :=
  ⟨fun _ _ _ hx => (nomatch hx), fun _ _ _ _ _ _ _ hx => (nomatch hx), fun _ _ hk => (nomatch hk)⟩

/-- The views stay anchored whatever a command or an event does to them. -/
theorem ViewsAnchored.viewEffect (h : ViewsAnchored s) (he : ViewEffect s t) : ViewsAnchored t := by
  cases he with
  | calm hc => exact h.calm hc
  | granted _ _ _ _ g hg hc => exact (h.granted hg).calm hc
  | narrowed _ _ _ _ _ x _ hc =>
    refine ViewsAnchored.calm ?_ hc
    exact h.thinned (thins_applyPlan _ _) rfl rfl
  | dropped _ _ k _ hc =>
    refine ViewsAnchored.calm ?_ hc
    exact h.thinned (thins_voidKeys _ _) rfl rfl
  | closed a hc _ =>
    obtain ⟨hw, hr, hv⟩ := closeViews_thins s a
    exact (h.thinned hv hw (congrArg RetireEngine.state hr)).calm hc
  | opened _ _ x hx hc => exact (h.opened hx).calm hc
  | taken r w hw hc => exact (h.taken hw).calm hc
  | swept r hs hc => exact (h.swept hs).calm hc
  | freed r hs hc => exact (h.freed hs).calm hc
  | reset hc => exact viewsAnchored_reset.calm hc

/-- Settles O56: a view is put only where its holder has none of a LIVE window that it may view, the sweep
takes every view of its window, and everything else only takes views away. -/
theorem viewsStayAnchored : Obligations.ViewsStayAnchored := by
  intro s t hs h
  obtain ⟨rest, he⟩ := step_viewEffect h
  exact ViewsAnchored.viewEffect (s := { s with pending := rest }) hs he

end Sys2Proof.Machine
end

section
/-! SUPPORT. Every root is held by its window's owner and every LIVE window has one root, after every step
(R25, R26).
-/

namespace Sys2Proof.Machine

variable {s t : State}

/-- The view at the place is a root of the window (R25). -/
def IsRoot (s : State) (v : ViewId) (k : Nat) : Prop :=
  v.inRange ∧ ∃ x, s.view? v = some x ∧ x.window = k ∧ x.root = true

theorem rootsHeld_iff : RootsHeld s
    ↔ (∀ v k, IsRoot s v k → (s.window? k).map Window.owner = some v.holder)
      ∧ ∀ k w, s.window? k = some w → w.isLive = true → ∃! v, IsRoot s v k := by
  refine and_congr_left fun _ => ⟨fun h v k ⟨hin, x, hx, hk, hr⟩ => ?_, fun h v x hin hx hr => ?_⟩
  · rw [← hk]
    exact h v x hin hx hr
  · exact h v x.window ⟨hin, x, hx, rfl, hr⟩

/-- Roots may go with the LIVE state of their windows, and none comes. -/
theorem RootsHeld.of_roots (h : RootsHeld s)
    (hw : ∀ k, Option.Rel Window.Outlives (s.window? k) (t.window? k))
    (hr : ∀ v k, IsRoot t v k → IsRoot s v k)
    (hk : ∀ v k w, IsRoot s v k → t.window? k = some w → w.isLive = true → IsRoot t v k) :
    RootsHeld t := by
  rw [rootsHeld_iff] at h ⊢
  obtain ⟨howner, hlive⟩ := h
  refine ⟨fun v k hv => ?_, fun k w hwk hl => ?_⟩
  · rw [← howner v k (hr v k hv)]
    have hrel := hw k
    generalize s.window? k = o at hrel
    generalize t.window? k = o' at hrel
    cases hrel with
    | some ho => exact congrArg some ho.owner
    | none => rfl
  · have hrel := hw k
    rw [hwk] at hrel
    rcases hsk : s.window? k with _ | w'
    · rw [hsk] at hrel
      cases hrel
    · rw [hsk] at hrel
      cases hrel with
      | some ho =>
        obtain ⟨v, hv, hu⟩ := hlive k w' hsk (ho.live hl)
        exact ⟨v, hk v k w hv hwk hl, fun u hut => hu u (hr u k hut)⟩

theorem Calm.isRoot_iff (h : Calm s t) (v : ViewId) (k : Nat) : IsRoot t v k ↔ IsRoot s v k := by
  simp only [IsRoot, State.view?, h.views]

theorem RootsHeld.calm (h : RootsHeld s) (hc : Calm s t) : RootsHeld t :=
  h.of_roots hc.window (fun v k => (hc.isRoot_iff v k).1) fun v k _ hv _ _ => (hc.isRoot_iff v k).2 hv

/-- A root goes with no view that is only thinned out. -/
theorem isRoot_of_thins (hv : Thins s.dir.views t.dir.views) {v : ViewId} {k : Nat}
    (h : IsRoot t v k) : IsRoot s v k := by
  obtain ⟨hin, x', hx', hk, hr⟩ := h
  obtain ⟨x, hx, ew, er⟩ := hv _ _ hx'
  exact ⟨hin, x, hx, ew.symm.trans hk, er.symm.trans hr⟩

/-- Views may go as long as no root of a LIVE window does. -/
theorem RootsHeld.thinned (h : RootsHeld s) (hv : Thins s.dir.views t.dir.views)
    (hw : t.dir.windows = s.dir.windows)
    (hk : ∀ v k w, IsRoot s v k → s.window? k = some w → w.isLive = true → IsRoot t v k) :
    RootsHeld t := by
  have hwin (k : Nat) : t.window? k = s.window? k := congrArg (Table.at? · k) hw
  refine h.of_roots (fun k => ?_) (fun v k => isRoot_of_thins hv) fun v k w hr hwk hl =>
    hk v k w hr (hwin k ▸ hwk) hl
  rw [hwin]
  exact (Calm.refl s).window k

/-- Below a view that is no root there is no root, so that the roots outlive its subtree (R25). -/
theorem GrantTable.root_not_mem_subtree (h : GrantTable s.dir.views) {a : Nat} {y : View}
    (ha : Table.at? s.dir.views a = some y) (hr : y.root = false) {v : ViewId} {k : Nat}
    (hv : IsRoot s v k) : v.key ∉ subtree s.dir.views a := by
  obtain ⟨-, x, hx, -, hxr⟩ := hv
  intro hmem
  obtain rfl := h.eq_of_below_root ((h.mem_subtree ha).1 hmem) hx hxr
  cases ha.symm.trans hx
  exact Bool.false_ne_true (hr.symm.trans hxr)

theorem IsRoot.of_view {v : ViewId} {k : Nat} (h : IsRoot s v k) (he : t.view? v = s.view? v) : IsRoot t v k := by
  obtain ⟨hin, x, hx, hrest⟩ := h
  exact ⟨hin, x, he.trans hx, hrest⟩

theorem RootsHeld.granted (h : RootsHeld s) {v : ViewId} {x : View} (hn : s.view? v = none)
    (hv : v.inRange) (hr : x.root = false) : RootsHeld (s.putView v x) := by
  have hiff (u : ViewId) (k : Nat) : IsRoot (s.putView v x) u k ↔ IsRoot s u k := by
    constructor
    · rintro ⟨hin, y, hy, hk, hyr⟩
      rw [State.view?_putView] at hy
      split at hy
      · cases hy
        exact absurd (hr.symm.trans hyr) Bool.false_ne_true
      · exact ⟨hin, y, hy, hk, hyr⟩
    · intro hu
      refine hu.of_view ?_
      rw [State.view?_putView, if_neg]
      intro e
      obtain ⟨hin, y, hy, -⟩ := hu
      obtain rfl := ViewId.key_injective hv.selector_lt hin.selector_lt e
      cases hn.symm.trans hy
  exact h.of_roots (Calm.refl s).window (fun u k => (hiff u k).1) fun u k _ hu _ _ => (hiff u k).2 hu

/-- The new root is the one root of the new window, and held by its owner (R16, R25, R26). -/
theorem RootsHeld.opened (h : RootsHeld s) (ha : ViewsAnchored s) {i : PortId} {a : OpenParams}
    {x : OpenTicket} (hx : checkOpenWindow i a s = .ok x) : RootsHeld (s.openWindow x) := by
  obtain ⟨hin, hvoid, -⟩ := opened_sound hx
  obtain ⟨hfree, -⟩ := opened_window hx
  have hview (u : ViewId) : (s.openWindow x).view? u
      = if ViewId.key ⟨x.owner, x.selector⟩ = u.key then some x.root else s.view? u :=
    State.view?_putView ..
  have hroot : IsRoot (s.openWindow x) ⟨x.owner, x.selector⟩ x.index :=
    ⟨hin, x.root, (hview _).trans (if_pos rfl), rfl, rfl⟩
  have hcases (u : ViewId) (k : Nat) (hu : IsRoot (s.openWindow x) u k) :
      (u = ⟨x.owner, x.selector⟩ ∧ k = x.index) ∨ (IsRoot s u k ∧ k ≠ x.index) := by
    obtain ⟨hu, y, hy, rfl, hr⟩ := hu
    rw [hview] at hy
    split at hy
    · rename_i e
      cases hy
      exact .inl ⟨(ViewId.key_injective hin.selector_lt hu.selector_lt e).symm, rfl⟩
    · exact .inr ⟨⟨hu, y, hy, rfl, hr⟩, ha.window_ne hfree hu hy⟩
  have hkeep (u : ViewId) (k : Nat) (hu : IsRoot s u k) : IsRoot (s.openWindow x) u k := by
    refine hu.of_view ((hview u).trans (if_neg fun e => ?_))
    obtain ⟨hin', y, hy, -⟩ := hu
    obtain rfl := ViewId.key_injective hin.selector_lt hin'.selector_lt e
    cases hvoid.symm.trans hy
  rw [rootsHeld_iff] at h ⊢
  obtain ⟨howner, hlive⟩ := h
  refine ⟨fun u k hu => ?_, fun k w hw hl => ?_⟩
  · rw [State.window?_openWindow]
    rcases hcases u k hu with ⟨rfl, rfl⟩ | ⟨hu, hk⟩
    · rw [if_pos rfl]
      rfl
    · rw [if_neg (Ne.symm hk)]
      exact howner u k hu
  · rw [State.window?_openWindow] at hw
    by_cases hk : k = x.index
    · subst hk
      exact ⟨_, hroot, fun u hu => (hcases u _ hu).elim And.left fun hu => absurd rfl hu.2⟩
    · rw [if_neg (Ne.symm hk)] at hw
      obtain ⟨v, hv, hu⟩ := hlive k w hw hl
      exact ⟨v, hkeep v k hv, fun u hu' => (hcases u k hu').elim (fun e => absurd e.2 hk)
        fun hu' => hu u hu'.1⟩

/-- The roots that other holders have outlive the close of a slot's views (R138). -/
theorem closeViews_root (h : GrantTable s.dir.views) (a : Holder) {v : ViewId} {k : Nat}
    (hv : IsRoot s v k) (ha : v.holder ≠ a) : IsRoot (s.closeViews a) v k := by
  refine (closeViews_keeps (P := fun u => GrantTable u.dir.views ∧ IsRoot u v k) a
    (fun u n y ⟨hu, hr⟩ hn hy _ => ⟨hu.voidSubtree hy, hr.of_view ?_⟩) ⟨h, hv⟩).2
  obtain ⟨hin, x, hx, -, hxr⟩ := hr
  refine (at?_voidKeys ..).trans (if_neg fun hmem => ?_)
  have e := hu.eq_of_below_root ((hu.mem_subtree hy).1 hmem) hx hxr
  exact ha (congrArg ViewId.holder (ViewId.key_injective hin.selector_lt hn.selector_lt e))

/-- The freed window has no view, and every other window stands as it did (R88, R90). -/
theorem RootsHeld.freed (h : RootsHeld s) (ha : ViewsAnchored s) {r : RetireRecord}
    (hs : s.retire.state = .freeing r) : RootsHeld { s with
      dir.windows := Table.remove s.dir.windows r.window, retire.state := .idle } := by
  rw [rootsHeld_iff] at h ⊢
  obtain ⟨howner, hlive⟩ := h
  refine ⟨fun v k hv => ?_, fun k w hw hl => ?_⟩
  · obtain ⟨hin, x, hx, rfl, hr⟩ := hv
    rw [window?_freed, if_neg (ha.window_ne_freed hs hin hx)]
    exact howner v _ ⟨hin, x, hx, rfl, hr⟩
  · rw [window?_freed] at hw
    split at hw
    · cases hw
    · exact hlive k w hw hl

theorem rootsHeld_reset : RootsHeld State.reset :=
  ⟨fun _ _ _ hx => (nomatch hx), fun _ _ hw => (nomatch hw)⟩

/-- The roots stay held whatever a command or an event does to the views. -/
theorem RootsHeld.viewEffect (h : RootsHeld s) (hg : GrantTable s.dir.views) (ha : ViewsAnchored s)
    (he : ViewEffect s t) : RootsHeld t := by
  cases he with
  | calm hc => exact h.calm hc
  | granted _ _ _ _ g hg' hc =>
    obtain ⟨hin, hvoid, -⟩ := granted_sound hg'
    refine (h.granted hvoid hin ?_).calm hc
    obtain ⟨_, _, _, _, -, -, -, -, -, -, -, -, -, -, -, rfl⟩ := checkGrantView_ok hg'
    rfl
  | narrowed _ _ _ _ _ x hx hc =>
    refine RootsHeld.calm ?_ hc
    obtain ⟨-, y, -, -, hy, hanc⟩ := checkNarrowView_ok hx
    have hr : y.root = false := by
      by_contra hr
      obtain ⟨b, hs, -⟩ := Relation.TransGen.head'_iff.1 (properAncestor_of_isAncestor hanc)
      exact hg.no_parent hy (Bool.not_eq_false _ ▸ hr) hs
    refine h.thinned (thins_applyPlan _ _) rfl fun v k _ hv _ _ => hv.of_view ?_
    exact (hg.at?_narrowed hy x.2 v.key).trans (if_neg (hg.root_not_mem_subtree hy hr hv))
  | dropped _ _ k hk hc =>
    refine RootsHeld.calm ?_ hc
    obtain ⟨-, y, hy, hr⟩ := checkDropView_ok hk
    refine h.thinned (thins_voidKeys _ _) rfl fun v k _ hv _ _ => hv.of_view ?_
    exact (at?_voidKeys _ _ _).trans (if_neg (hg.root_not_mem_subtree hy hr hv))
  | closed a hc hl =>
    obtain ⟨hw, -, hv⟩ := closeViews_thins s a
    have hwin (k : Nat) : (s.closeViews a).window? k = s.window? k := congrArg (Table.at? · k) hw
    refine h.of_roots (fun k => hwin k ▸ hc.window k)
      (fun v k hr => isRoot_of_thins hv ((hc.isRoot_iff v k).1 hr)) fun v k w hr hwk hlive => ?_
    refine (hc.isRoot_iff v k).2 (closeViews_root hg a hr fun e => hl k w hwk hlive ?_)
    obtain ⟨w', hw', ho⟩ := hc.window_of hwk
    have := (rootsHeld_iff.1 h).1 v k hr
    rw [← hwin, hw', e] at this
    exact ho.owner.trans (Option.some.inj this)
  | opened _ _ x hx hc => exact (h.opened ha hx).calm hc
  | taken r w hw hc =>
    refine RootsHeld.calm ?_ hc
    exact h.calm (s := s) (t := s.putWindow r.window { w with state := .clearing })
      (calm_putWindow hw ⟨rfl, rfl, fun e => (nomatch e), fun _ => rfl⟩)
  | swept r hs hc =>
    refine RootsHeld.calm ?_ hc
    refine h.thinned (thins_voidKeys _ _) rfl fun v k w hv hw hl => hv.of_view ?_
    obtain ⟨-, x, hx, hk, -⟩ := hv
    refine (at?_swept hg.rising r.window v.key).trans ?_
    rw [show Table.at? s.dir.views v.key = some x from hx, Option.bind_some, if_neg, ← hx]
    intro e
    obtain ⟨⟨w', hw', hst⟩, -⟩ := ha.2.2 r.window false (by rw [hs]; rfl)
    rw [← e, hk, hw] at hw'
    cases hw'
    exact Window.isLive_ne_clearing hl hst
  | freed r hs hc => exact (h.freed ha hs).calm hc
  | reset hc => exact rootsHeld_reset.calm hc

/-- Settles O55: what is voided takes all that is granted from it, a narrowing takes from a view what it takes
from its parent, and no root of a LIVE window goes. -/
theorem grantTreesKept : Obligations.GrantTreesKept := by
  refine ⟨fun s t hs h => ?_, fun s t ⟨hg, ha, hr⟩ h => ?_⟩
  · obtain ⟨rest, he⟩ := step_viewEffect h
    exact grantTrees_iff.2 (GrantTable.viewEffect (s := { s with pending := rest })
      (grantTrees_iff.1 hs) he)
  · obtain ⟨rest, he⟩ := step_viewEffect h
    exact RootsHeld.viewEffect (s := { s with pending := rest }) hr (grantTrees_iff.1 hg) ha he

end Sys2Proof.Machine
end

section
/-! SUPPORT. What a command or an event can do to the marks and the transfers of the ports and to the queue
of those that wait (`PortEffect`, `exec_portEffect`): an admission brings a transfer and a granted FETCH a
mark (R49, R54), and everything else adds nothing (`AddsNothing`).
-/

namespace Sys2Proof.Machine

variable {s t u : State}

/-! ### What most commands and events leave -/

/-- The commands that wait are as they were, and no port has taken a transfer or a guarded mark. -/
structure AddsNothing (s t : State) : Prop where
  pending : t.pending = s.pending
  mark : ∀ i, (t.port i).mark = true → (s.port i).mark = true
  transfer : ∀ i x, (t.port i).transfer = some x → (s.port i).transfer = some x

theorem AddsNothing.of_ports (hq : t.pending = s.pending) (hp : t.ports = s.ports) :
    AddsNothing s t where
  pending := hq
  mark i h := by rwa [State.port, hp] at h
  transfer i x h := by rwa [State.port, hp] at h

theorem AddsNothing.refl (s : State) : AddsNothing s s := .of_ports rfl rfl

theorem AddsNothing.trans (h : AddsNothing s t) (g : AddsNothing t u) : AddsNothing s u where
  pending := g.pending.trans h.pending
  mark i hm := h.mark i (g.mark i hm)
  transfer i x hx := h.transfer i x (g.transfer i x hx)

theorem addsNothing_setPort (s : State) (i : PortId) (y : Port)
    (hm : y.mark = true → (s.port i).mark = true)
    (hx : ∀ x, y.transfer = some x → (s.port i).transfer = some x) :
    AddsNothing s (s.setPort i y) where
  pending := rfl
  mark j h := by
    rw [State.port_setPort] at h
    split at h
    · rename_i e
      exact e ▸ hm h
    · exact h
  transfer j x h := by
    rw [State.port_setPort] at h
    split at h
    · rename_i e
      exact e ▸ hx x h
    · exact h

theorem AddsNothing.answer (h : AddsNothing s t) (i : PortId) (code : ResultCode) (detail : List Byte) :
    AddsNothing s (t.answer i code detail) :=
  h.trans (addsNothing_setPort t i _ id fun _ => id)

theorem addsNothing_answer (s : State) (i : PortId) (code : ResultCode) (detail : List Byte) :
    AddsNothing s (s.answer i code detail) := (AddsNothing.refl s).answer ..

theorem AddsNothing.postAll (h : AddsNothing s t) (ns : List Notice) : AddsNothing s (t.postAll ns) :=
  h.trans ⟨rfl, fun i hm => by rwa [State.port_postAll_mark] at hm,
    fun i x hx => by rwa [State.port_postAll_transfer] at hx⟩

theorem AddsNothing.post (h : AddsNothing s t) (n : Notice) : AddsNothing s (t.post n) := h.postAll [n]

theorem addsNothing_putWindow (s : State) (k : Nat) (w : Window) : AddsNothing s (s.putWindow k w) :=
  .of_ports rfl rfl

theorem addsNothing_takeLineEvent (s : State) (line : Nat) : AddsNothing s (s.takeLineEvent line) :=
  .of_ports rfl rfl

theorem addsNothing_foldl {α : Type} (f : State → α → State)
    (hf : ∀ (s : State) a, AddsNothing s (f s a)) (l : List α) (s : State) :
    AddsNothing s (l.foldl f s) := by
  induction l generalizing s with
  | nil => exact .refl s
  | cons a l ih => exact (hf s a).trans (ih _)

/-! ### The shared operations -/

theorem addsNothing_beginRetirement (s : State) (k : Nat) (cause : RetireCause) :
    AddsNothing s (s.beginRetirement k cause) := by
  rw [State.beginRetirement_keeps]
  exact .of_ports rfl rfl

theorem addsNothing_retireAll (s : State) (cause : RetireCause) (ks : List Nat) :
    AddsNothing s (s.retireAll cause ks) :=
  addsNothing_foldl _ (fun t k => addsNothing_beginRetirement t k cause) ks s

theorem addsNothing_requestExchange (s : State) (k : Nat) (w : Window) (source : SwapSource) :
    AddsNothing s (s.requestExchange k w source) := by
  unfold State.requestExchange
  split
  · exact (addsNothing_putWindow ..).postAll _
  · split
    · exact .refl s
    · exact addsNothing_putWindow ..

theorem addsNothing_lineAction (s : State) (line k : Nat) : AddsNothing s (s.lineAction line k) := by
  unfold State.lineAction
  split
  · exact .refl s
  · split
    · split
      · exact addsNothing_beginRetirement s k .line
      · exact addsNothing_requestExchange s k _ .line
      · exact .refl s
    · exact .refl s

theorem addsNothing_tickWindow (s : State) (k : Nat) : AddsNothing s (s.tickWindow k) := by
  unfold State.tickWindow
  split
  · exact .refl s
  · split
    · split
      · exact .refl s
      · split
        · exact (addsNothing_putWindow ..).trans (addsNothing_beginRetirement ..)
        · exact addsNothing_putWindow ..
    · exact .refl s

theorem addsNothing_takeTick (s : State) : AddsNothing s s.takeTick := by
  have h : AddsNothing s { s with events.ticks := s.events.ticks - 1 } := .of_ports rfl rfl
  exact h.trans (addsNothing_foldl _ addsNothing_tickWindow _ _)

theorem addsNothing_quietPoint (s : State) (k : Nat) : AddsNothing s (s.quietPoint k) := by
  rcases hw : s.window? k with _ | w
  · rw [State.quietPoint_eq, hw]
    exact .refl s
  · have hput : AddsNothing s (s.putQueued k w.settled w.joinsQueue) := .of_ports rfl rfl
    obtain ⟨ns, h | h⟩ := State.quietPoint_eq_putQueued hw
    · rw [h]
      exact hput.postAll ns
    · rw [h]
      exact .refl s

theorem addsNothing_setDamaged (s : State) (k : Nat) : AddsNothing s (s.setDamaged k) := by
  rw [State.setDamaged_eq]
  split
  · exact .refl s
  · split
    · exact .refl s
    · exact (addsNothing_putWindow ..).postAll _

theorem addsNothing_lowerTransfer (s : State) (x : Transfer) (c : Completion) :
    AddsNothing s (s.lowerTransfer x c) := by
  have hlow : AddsNothing s (s.lowerInFlight x.window) := by
    unfold State.lowerInFlight
    split
    · exact .refl s
    · exact addsNothing_putWindow ..
  unfold State.lowerTransfer
  split
  · exact hlow.trans (addsNothing_setDamaged ..)
  · exact hlow

theorem addsNothing_actReset (s : State) (i : PortId) : AddsNothing s (s.actReset i) := by
  have h := addsNothing_setPort s i
    { s.port i with notices := [], lost := false, last := LastResult.initial, state := .idle } id
    fun _ => id
  exact h.trans (.of_ports rfl rfl)

theorem addsNothing_complete (s : State) (i : PortId) (x : Transfer) (c : Completion) :
    AddsNothing s (s.complete i x c) := by
  have hfree (u : State) (last : LastResult) : AddsNothing u (u.freePort i last) :=
    addsNothing_setPort u i _ id fun _ h => nomatch h
  have hq := ((addsNothing_lowerTransfer s x c).trans (addsNothing_quietPoint _ x.window)).trans
    (hfree _ (completionResult x c))
  rw [State.complete_eq]
  split
  · exact hq.trans (addsNothing_actReset _ i)
  · exact hq

theorem addsNothing_releasePin (s : State) (k : Nat) : AddsNothing s (s.releasePin k) := by
  unfold State.releasePin
  split
  · exact .refl s
  · exact addsNothing_putWindow ..

theorem addsNothing_pin (s : State) (k : Nat) : AddsNothing s (s.pin k) := by
  unfold State.pin
  split
  · exact .refl s
  · exact addsNothing_putWindow ..

theorem addsNothing_releaseMove (s : State) (x : Resolved) : AddsNothing s (s.releaseMove x) := by
  rw [State.releaseMove_eq]
  exact ((addsNothing_releasePin s _).trans (addsNothing_releasePin _ _)).trans
    (addsNothing_foldl _ addsNothing_quietPoint _ _)

theorem addsNothing_endMove (s : State) (r : MoveRequest) (code : ResultCode) (dataError : Bool) :
    AddsNothing s (s.endMove r code dataError) := by
  have hpost (u : State) (n : Notice) (b : Bool) (queue : List MoveRequest) : AddsNothing u
      { (if b then u else u.post n) with
        move.queue := queue, move.state := .idle, move.corrected := 0 } := by
    cases b
    · exact ((AddsNothing.refl u).post n).trans (.of_ports rfl rfl)
    · exact .of_ports rfl rfl
  unfold State.endMove
  rcases r.resolved with _ | x
  · exact hpost s _ _ _
  · have hd : AddsNothing s (if dataError then s.setDamaged x.srcWindow else s) := by
      split
      · exact addsNothing_setDamaged ..
      · exact .refl s
    exact (hd.trans (addsNothing_releaseMove _ x)).trans (hpost _ _ _ _)

theorem addsNothing_startMove (s : State) (r : MoveRequest) (x : Resolved) :
    AddsNothing s (s.startMove r x) := by
  have h : AddsNothing s (s.setMoveHead { r with resolved := some x }) := .of_ports rfl rfl
  exact ((h.trans (addsNothing_pin _ x.srcWindow)).trans (addsNothing_pin _ x.dstWindow)).trans
    (.of_ports rfl rfl)

/-! ### The close of an app slot -/

theorem addsNothing_completeClose (s : State) (slot : Nat) : AddsNothing s (s.completeClose slot) := by
  have h : AddsNothing s (s.setSlot slot .closed) := .of_ports rfl rfl
  exact h.post _

theorem addsNothing_closeIfLast (s : State) (h : Holder) : AddsNothing s (s.closeIfLast h) := by
  unfold State.closeIfLast
  split
  · exact .refl s
  · exact .refl s
  · split
    · exact addsNothing_completeClose ..
    · exact .refl s

theorem addsNothing_withViews (s : State) (views : Table View) (ns : List Notice) :
    AddsNothing s (({ s with dir.views := views } : State).postAll ns) := by
  have h : AddsNothing s { s with dir.views := views } := .of_ports rfl rfl
  exact h.postAll ns

theorem addsNothing_teardown (s : State) (slot : Nat) : AddsNothing s (s.teardown slot) := by
  have hview (u : State) (a : Holder) (n : Nat) : AddsNothing u (u.closeView a n) := by
    unfold State.closeView
    split
    · exact .refl u
    · exact addsNothing_withViews ..
  have hmoves (u : State) (a : Holder) : AddsNothing u (u.closeMoves a) := by
    unfold State.closeMoves
    refine AddsNothing.postAll ?_ _
    exact .of_ports rfl rfl
  have hstate (u : State) (a : Holder) : AddsNothing u (u.closeState slot a) := by
    unfold State.closeState
    split
    · exact .of_ports rfl rfl
    · exact addsNothing_completeClose ..
  exact (((addsNothing_foldl _ (fun u n => hview u _ n) _ s).trans (addsNothing_retireAll ..)).trans
    (hmoves _ _)).trans (hstate _ _)

/-! ### The events of the engines -/

theorem addsNothing_startCheck (h : execStartCheck s = .next t) : AddsNothing s t := by
  unfold execStartCheck at h
  cases h
  split
  · exact .refl s
  · split
    · exact addsNothing_endMove ..
    · split
      · exact addsNothing_endMove ..
      · exact addsNothing_startMove ..

theorem addsNothing_fillPatternRead {flips : List BitFlip} (h : execFillPatternRead flips s = .next t) :
    AddsNothing s t := by
  unfold execFillPatternRead at h
  split at h
  · cases h
    exact .refl s
  · split at h
    · cases h
    · cases h
      unfold State.performPattern
      simp only
      split <;> exact .of_ports rfl rfl

theorem addsNothing_chunkCheck (h : execChunkCheck s = .next t) : AddsNothing s t := by
  unfold execChunkCheck at h
  cases h
  split
  · exact .refl s
  · split
    · exact addsNothing_endMove ..
    · exact .of_ports rfl rfl

theorem addsNothing_copyChunk (s : State) (flips : List BitFlip) (r : MoveRequest) (src dst : Nat) :
    AddsNothing s ((s.beginGrant .moveEngine flips).performCopyChunk r src dst) := by
  unfold State.performCopyChunk
  simp only
  split <;> exact .of_ports rfl rfl

theorem addsNothing_moveChunkGrant {flips : List BitFlip} (h : execMoveChunkGrant flips s = .next t) :
    AddsNothing s t := by
  unfold execMoveChunkGrant at h
  split at h
  · cases h
    exact .refl s
  · split at h
    · cases h
    · split at h
      · cases h
        exact .of_ports rfl rfl
      all_goals
        split at h
        · cases h
        · cases h
          exact addsNothing_copyChunk ..

theorem addsNothing_moveEnd (h : execMoveEnd s = .next t) : AddsNothing s t := by
  unfold execMoveEnd at h
  cases h
  split
  · exact addsNothing_endMove ..
  · exact addsNothing_endMove ..
  · exact .refl s

theorem addsNothing_sweep (h : execSweep s = .next t) : AddsNothing s t := by
  unfold execSweep at h
  cases h
  split
  · exact (addsNothing_withViews ..).trans (.of_ports rfl rfl)
  all_goals exact .refl s

theorem addsNothing_pageScrubGrant (h : execPageScrubGrant s = .next t) : AddsNothing s t := by
  unfold execPageScrubGrant at h
  split at h
  · split at h
    · split at h
      · cases h
        exact .of_ports rfl rfl
      · cases h
    · cases h
      exact .refl s
  all_goals
    cases h
    exact .refl s

theorem addsNothing_pageRelease (h : execPageRelease s = .next t) : AddsNothing s t := by
  unfold execPageRelease at h
  cases h
  split
  · simp only
    split <;> exact .of_ports rfl rfl
  all_goals exact .refl s

theorem addsNothing_windowFreeing (h : execWindowFreeing s = .next t) : AddsNothing s t := by
  unfold execWindowFreeing at h
  cases h
  split
  · rename_i r _
    have hfree : AddsNothing s (s.freeEntry r) := .of_ports rfl rfl
    exact ((hfree.post _).trans (addsNothing_closeIfLast _ r.owner)).trans (.of_ports rfl rfl)
  all_goals exact .refl s

theorem addsNothing_startupScrubGrant (h : execStartupScrubGrant s = .next t) : AddsNothing s t := by
  unfold execStartupScrubGrant at h
  split at h
  · cases h
    exact .refl s
  · split at h
    · cases h
      exact .of_ports rfl rfl
    · cases h

theorem addsNothing_startupPageRelease (h : execStartupPageRelease s = .next t) : AddsNothing s t := by
  unfold execStartupPageRelease at h
  cases h
  split
  · split <;> exact .of_ports rfl rfl
  all_goals exact .refl s

theorem addsNothing_scrubEnd (h : execScrubEnd s = .next t) : AddsNothing s t := by
  unfold execScrubEnd at h
  cases h
  split
  · exact ⟨rfl, fun i hm => by cases i <;> exact hm, fun i x hx => by cases i <;> exact hx⟩
  · exact .refl s

/-! ### Transfers -/

theorem addsNothing_putGrant {i : PortId} {flips : List BitFlip} (h : execPutGrant i flips s = .next t) :
    AddsNothing s t := by
  unfold execPutGrant at h
  split at h
  · cases h
    exact .refl s
  · split at h
    · cases h
    · cases h
      have hport (c : Completion) :=
        addsNothing_setPort s i { s.port i with completion := some c } id fun _ => id
      exact (hport _).trans (.of_ports rfl rfl)

theorem addsNothing_transferCompletion {i : PortId} (h : execTransferCompletion i s = .next t) :
    AddsNothing s t := by
  unfold execTransferCompletion at h
  cases h
  split
  · exact addsNothing_complete ..
  all_goals exact .refl s

/-! ### Every command and event -/

/-- What a command or an event makes of the marks and the transfers of the ports. -/
inductive PortEffect (s : State) : State → Prop
  /-- No mark and no transfer comes. -/
  | nothing {t : State} (h : AddsNothing s t) : PortEffect s t
  /-- A transfer is admitted (R48, R49). -/
  | admitted (i : PortId) (kind : TransferKind) (a : TransferParams) (x : Transfer × Window)
      (hx : checkAdmission kind i a s = .ok x) : PortEffect s (s.acceptTransfer i x.1 x.2)
  /-- A FETCH is granted (R53, R54). -/
  | fetched (i : PortId) (flips : List BitFlip) (x : Transfer) (address : Nat)
      (hx : (s.port i).transfer = some x) :
      PortEffect s ((s.beginGrant (.port i) flips).performFetch i x address)

theorem portEffect_onPort {i : PortId} {during always : Bool} {act : State} (h : PortEffect s act) :
    PortEffect s (s.onPort i during always act) := by
  unfold State.onPort
  split
  · exact .nothing (addsNothing_answer ..)
  · exact h

theorem portEffect_checked {α : Type} {i : PortId} {checks : Except ResultCode α} {act : α → State}
    (h : ∀ a, checks = .ok a → PortEffect s (act a)) : PortEffect s (s.checked i checks act) := by
  rcases hc : checks with code | a
  · exact .nothing (addsNothing_answer ..)
  · exact h a hc

theorem portEffect_command {α : Type} {i : PortId} {checks : Except ResultCode α} {act : α → State}
    (h : ∀ a, checks = .ok a → PortEffect s (act a)) :
    PortEffect s (s.onIdle i (s.checked i checks act)) := portEffect_onPort (portEffect_checked h)

/-- A command that answers after an act that adds nothing. -/
theorem portEffect_answering {α : Type} {i : PortId} {checks : Except ResultCode α} {act : α → State}
    {code : ResultCode} {detail : α → List Byte} (h : ∀ a, AddsNothing s (act a)) :
    PortEffect s (s.onIdle i (s.checked i checks fun a => (act a).answer i code (detail a))) :=
  portEffect_command fun a _ => .nothing ((h a).answer ..)

theorem portEffect_onAPort {i : PortId} {act : State} (h : PortEffect s act) :
    PortEffect s (s.onAPort i act) := by
  cases i
  · exact .nothing (addsNothing_answer ..)
  · exact .nothing (addsNothing_answer ..)
  · exact portEffect_onPort h

theorem portEffect_fetchGrant {i : PortId} {flips : List BitFlip}
    (h : execFetchGrant i flips s = .next t) : PortEffect s t := by
  unfold execFetchGrant at h
  split at h
  · cases h
    exact .nothing (.refl s)
  · rename_i x hx
    split at h
    · cases h
    · cases h
      exact .fetched i flips x _ (grantedTransfer_eq_some hx)

theorem portEffect_portReset {i : PortId} (h : execPortReset i s = .next t) : PortEffect s t := by
  unfold execPortReset at h
  cases h
  refine portEffect_onPort (.nothing ?_)
  split
  · exact (addsNothing_actReset s i).answer ..
  · exact (addsNothing_setPort s i { s.port i with state := .resetting } id fun _ => id).answer ..
  · exact addsNothing_answer ..
  · exact .refl s

/-- What a command or an event makes of the ports is one of the effects listed. -/
theorem exec_portEffect {c : Instr} (h : exec c s = .next t) : PortEffect s t := by
  cases c
  case readStatus i =>
    cases h
    exact portEffect_onPort (.nothing
      ((addsNothing_setPort s i { s.port i with lost := false } id fun _ => id).answer ..))
  case readNotice i =>
    cases h
    refine portEffect_onPort (.nothing ?_)
    split
    · exact addsNothing_answer ..
    · rename_i n rest _
      exact (addsNothing_setPort s i { s.port i with notices := rest } id fun _ => id).answer ..
  case portReset => exact portEffect_portReset h
  case loadStaging i column count payload =>
    cases h
    split
    · exact portEffect_answering fun _ => addsNothing_setPort s i
        { s.port i with staging := Table.writeRun 0#8 (s.port i).staging column.toNat payload } id
        fun _ => id
    · exact .nothing (addsNothing_answer ..)
  case clearStaging i =>
    cases h
    exact portEffect_onPort (.nothing ((addsNothing_setPort s i
      { s.port i with staging := [], mark := false } (fun hm => nomatch hm) fun _ => id).answer ..))
  case put i a =>
    cases h
    exact portEffect_command fun x hx => .admitted i .put a x hx
  case fetch i a =>
    cases h
    exact portEffect_command fun x hx => .admitted i .fetch a x hx
  case grantView =>
    cases h
    refine portEffect_command fun g _ => .nothing (AddsNothing.answer (AddsNothing.post ?_ _) _ _ _)
    exact .of_ports rfl rfl
  case narrowView =>
    cases h
    exact portEffect_command fun _ _ => .nothing ((addsNothing_withViews ..).answer ..)
  case dropView =>
    cases h
    exact portEffect_command fun _ _ => .nothing ((addsNothing_withViews ..).answer ..)
  case retireWindow =>
    cases h
    exact portEffect_answering fun _ => addsNothing_beginRetirement ..
  case swapBanks =>
    cases h
    exact portEffect_answering fun _ => addsNothing_requestExchange ..
  case selectApp i slot =>
    cases h
    refine portEffect_onAPort (portEffect_checked fun _ _ => .nothing (AddsNothing.answer ?_ _ _ _))
    unfold State.selectApp
    split
    · exact .refl s
    · refine ⟨rfl, fun j hm => ?_, fun j x hx => by cases j <;> exact hx⟩
      cases j with
      | pPort => exact hm
      | nPort => exact hm
      | aPort => cases hm
  case openSlot =>
    cases h
    refine portEffect_onAPort (portEffect_checked fun _ _ => .nothing (AddsNothing.answer ?_ _ _ _))
    exact .of_ports rfl rfl
  case closeSlot =>
    cases h
    exact portEffect_onAPort (portEffect_checked fun _ _ =>
      .nothing ((addsNothing_teardown ..).answer ..))
  case frameRejected =>
    cases h
    refine .nothing ?_
    split
    · exact addsNothing_answer ..
    · exact addsNothing_answer ..
    all_goals exact .refl s
  case frameDiscarded i bytes =>
    cases h
    refine .nothing ?_
    split
    · exact addsNothing_setPort s i { s.port i with response := none } id fun _ => id
    all_goals exact .refl s
  case deviceReset =>
    cases h
    refine .nothing ⟨rfl, fun i hm => ?_, fun i x hx => ?_⟩
    · cases i <;> cases hm
    · cases i <;> cases hx
  case startupScrubGrant => exact .nothing (addsNothing_startupScrubGrant h)
  case startupPageRelease => exact .nothing (addsNothing_startupPageRelease h)
  case scrubEnd => exact .nothing (addsNothing_scrubEnd h)
  case putGrant => exact .nothing (addsNothing_putGrant h)
  case fetchGrant => exact portEffect_fetchGrant h
  case transferCompletion => exact .nothing (addsNothing_transferCompletion h)
  case startCheck => exact .nothing (addsNothing_startCheck h)
  case fillPatternRead => exact .nothing (addsNothing_fillPatternRead h)
  case chunkCheck => exact .nothing (addsNothing_chunkCheck h)
  case moveChunkGrant => exact .nothing (addsNothing_moveChunkGrant h)
  case moveEnd => exact .nothing (addsNothing_moveEnd h)
  case sweep => exact .nothing (addsNothing_sweep h)
  case pageScrubGrant => exact .nothing (addsNothing_pageScrubGrant h)
  case pageRelease => exact .nothing (addsNothing_pageRelease h)
  case windowFreeing => exact .nothing (addsNothing_windowFreeing h)
  case lineEvent =>
    cases h
    refine .nothing ?_
    split
    · exact (addsNothing_takeLineEvent ..).trans
        (addsNothing_foldl _ (fun u k => addsNothing_lineAction u _ k) _ _)
    · exact .refl s
  case tamperLineEvent =>
    cases h
    refine .nothing ?_
    split
    · refine (AddsNothing.trans ?_ (addsNothing_retireAll _ _ _)).postAll _
      exact .of_ports rfl rfl
    · exact .refl s
  case tick =>
    cases h
    refine .nothing ?_
    split
    · exact .refl s
    · exact addsNothing_takeTick s
  case lifetimeExpiry =>
    cases h
    refine .nothing ?_
    split
    · exact .refl s
    · split
      · exact addsNothing_takeTick s
      · exact .refl s
  case tickEmit =>
    cases h
    exact .nothing (.of_ports rfl rfl)
  case moveTakeHead | retireTakeHead | lineEdge =>
    cases h
    refine .nothing ?_
    split <;> exact .of_ports rfl rfl
  case readStaging | describeView =>
    cases h
    exact portEffect_answering fun _ => .refl s
  case move | openWindow | renew | stageLimit | setPools | setQuota | setLine | lockPolicy | clearTamper =>
    cases h
    exact portEffect_answering fun _ => .of_ports rfl rfl

end Sys2Proof.Machine
end

section
/-! SUPPORT. The admission of PUT and FETCH: its checks beside the manual's list, and what they find
(R48, R49).
-/

namespace Sys2Proof.Machine

variable {s : State} {kind : TransferKind} {i : PortId} {a : TransferParams}

/-- The word of the bank, its number and its record are looked up as the manual's addressed bank is
(R6, R64). -/
theorem found_addressed {β : Type} (w : Window) (bank : Byte)
    (f : BankNo → Bank → Except ResultCode β) :
    (do
      let name ← found (BankName.ofByte? bank) .badArg
      let n ← found (w.resolve name) .badArg
      let b ← found (w.bank? n) .badArg
      f n b) = found (w.addressed bank) .badArg >>= fun b => f b.1 b.2 := by
  by_cases h0 : bank = 0x00#8
  · subst h0
    rcases hb : w.bank? w.live with _ | b <;>
      simp [BankName.ofByte?, Window.resolve, Window.addressed, hb]
  · by_cases h1 : bank = 0x01#8
    · subst h1
      rcases h2 : w.bank1 with _ | b1
      · simp [BankName.ofByte?, Window.resolve, Window.addressed, h2]
      · rcases hb : w.bank? w.live.other with _ | b <;>
          simp [BankName.ofByte?, Window.resolve, Window.addressed, h2, hb]
    · simp [BankName.ofByte?, Window.addressed, h0, h1]

/-- A run of columns that is empty or passes column 511 (R44, R48). -/
theorem outsideColumns_eq (column count : Nat) :
    (decide (count = 0) || decide (512 < column + count))
      = !(decide (count ≠ 0) && decide (column + count ≤ Config.stagingBytes)) := by
  have h : decide (512 < column + count) = !decide (column + count ≤ Config.stagingBytes) := by
    rw [← decide_not, decide_eq_decide, Nat.not_le]
    rfl
  rw [h]
  simp

/-- PUT and FETCH refuse as the manual lists it (R48). -/
theorem mirrors_checkAdmission (kind : TransferKind) (i : PortId) (a : TransferParams) (s : State) :
    Mirrors (transferChecks kind i a s) (checkAdmission kind i a s) := by
  refine (mirrors_callerView s (s.caller i) a.selector).bind fun v hv => ?_
  rw [callerView_eq_ok hv, Bool.or_assoc (Option.isNone _)]
  refine .cons (mirrors_liveWindow s v) fun w hw => ?_
  rw [show s.behind (some v) = some w from (liveWindow_eq_ok.1 hw).1]
  refine .or_cons (mirrors_require rfl) fun _ _ => .cons (mirrors_require ?_) fun _ _ => ?_
  · simp
  rw [found_addressed, Option.bind_some]
  refine .or_cons (mirrors_found rfl) fun b hb => ?_
  rw [found_eq_ok.1 hb]
  refine .cons (mirrors_require ?_) fun _ _ => .cons (mirrors_require ?_) fun _ _ =>
    .cons (mirrors_require rfl) fun _ _ => .cons (mirrors_require ?_) fun _ _ =>
    .cons (mirrors_require ?_) fun _ _ => rfl
  · exact outsideColumns_eq ..
  · simp
  · simp
  · simp

/-- What admission finds is the caller's view, the window behind it and the bank addressed (R48, R49). -/
theorem checkAdmission_found {x : Transfer × Window} (h : checkAdmission kind i a s = .ok x) :
    ∃ v w b, s.callerView (s.caller i) a.selector = .ok v ∧ s.window? v.window = some w
      ∧ w.addressed a.bank = some b
      ∧ x = (⟨kind, v.window, b.1, a.offset.toNat, a.column.toNat, a.count.toNat⟩, w) := by
  simp only [checkAdmission, found_addressed, Checks.bind_eq_ok, liveWindow_eq_ok, found_eq_ok,
    Checks.pure_eq, Except.ok.injEq] at h
  obtain ⟨v, hv, w, ⟨hw, -⟩, -, -, -, -, b, hb, -, -, -, -, -, -, -, -, -, -, rfl⟩ := h
  exact ⟨v, w, b, hv, hw, hb, rfl⟩

end Sys2Proof.Machine
end

section
/-! SUPPORT. The A-port stays unmarked and off GUARDED windows (R28, R54): no A-holder has a view of a
GUARDED window, so that the A-port is admitted to none and fetches from none.
-/

namespace Sys2Proof.Machine

variable {s t : State}

/-- A window that stands before and after a command or an event keeps its class (R3). -/
theorem ViewEffect.cls_eq (he : ViewEffect s t)
    {k : Nat} {w w' : Window} (hw : s.window? k = some w) (hw' : t.window? k = some w') :
    w'.cls = w.cls := by
  have hcalm {u : State} (hc : Calm u t) (hu : ∀ v, u.window? k = some v → v.cls = w.cls) :
      w'.cls = w.cls := by
    obtain ⟨v, hv, ho⟩ := hc.window_of hw'
    exact ho.cls.trans (hu v hv)
  have hsame {u : State} (hc : Calm u t) (hu : u.dir.windows = s.dir.windows) : w'.cls = w.cls := by
    refine hcalm hc fun v hv => ?_
    rw [State.window?, hu] at hv
    cases hw.symm.trans hv
    rfl
  cases he with
  | calm hc => exact hsame hc rfl
  | granted _ _ _ _ _ _ hc => exact hsame hc rfl
  | narrowed _ _ _ _ _ _ _ hc => exact hsame hc rfl
  | dropped _ _ _ _ hc => exact hsame hc rfl
  | closed a hc _ => exact hsame hc (closeViews_thins s a).1
  | opened _ _ x hx hc =>
    refine hcalm hc fun v hv => ?_
    rw [State.window?_openWindow] at hv
    split at hv
    · rename_i e
      cases (opened_window hx).1.symm.trans (e ▸ hw)
    · cases hw.symm.trans hv
      rfl
  | taken r u hu hc =>
    refine hcalm hc fun v hv => ?_
    have hv := (State.window?_putWindow s r.window k _).symm.trans hv
    split at hv
    · rename_i e
      cases hu.symm.trans (e ▸ hw)
      cases hv
      rfl
    · cases hw.symm.trans hv
      rfl
  | swept _ _ hc => exact hsame hc rfl
  | freed r _ hc =>
    refine hcalm hc fun v hv => ?_
    rw [window?_freed] at hv
    split at hv
    · cases hv
    · cases hw.symm.trans hv
      rfl
  | reset hc => exact hcalm hc fun v hv => nomatch hv

/-- An A-holder is admitted to no GUARDED window (R28). -/
theorem admitted_notGuarded (ha : ViewsAnchored s) {kind : TransferKind} {a : TransferParams}
    {x : Transfer × Window} (h : checkAdmission kind .aPort a s = .ok x) :
    ∃ w, s.window? x.1.window = some w ∧ w.cls ≠ .guarded := by
  obtain ⟨v, w, b, hv, hw, -, rfl⟩ := checkAdmission_found h
  obtain ⟨w', hw', hcls⟩ := ha.1 _ v (callerView_inRange hv) (callerView_eq_ok hv)
  exact ⟨w', hw', hcls rfl⟩

/-- A transfer in flight on the A-port is on a window that is not FREE and not GUARDED (R51, R54). -/
theorem ApplicationUnmarked.transfer (h : ApplicationUnmarked s) (hw : WorkAccounted s) {x : Transfer}
    (hx : s.ports.a.transfer = some x) : ∃ w, s.window? x.window = some w ∧ w.cls ≠ .guarded := by
  obtain ⟨-, -, -, -, -, hranges⟩ := hw
  obtain ⟨-, -, htransfers, -⟩ := hranges
  obtain ⟨w, -, hk, -⟩ := htransfers .aPort x hx
  exact ⟨w, hk, h.2 x hx w hk⟩

/-- What the A-port holds after a command or an event is on a window that was not GUARDED before it. -/
theorem PortEffect.transfer_notGuarded (he : PortEffect s t) (hw : WorkAccounted s)
    (ha : ViewsAnchored s) (h : ApplicationUnmarked s) {x : Transfer}
    (hx : t.ports.a.transfer = some x) : ∃ w, s.window? x.window = some w ∧ w.cls ≠ .guarded := by
  cases he with
  | nothing hn => exact h.transfer hw (hn.transfer .aPort x hx)
  | admitted i kind a y hy =>
    cases i with
    | pPort => exact h.transfer hw hx
    | nPort => exact h.transfer hw hx
    | aPort =>
      cases hx
      exact admitted_notGuarded ha hy
  | fetched i =>
    cases i with
    | pPort => exact h.transfer hw hx
    | nPort => exact h.transfer hw hx
    | aPort => exact h.transfer hw hx

/-- The mark of the A-port stays clear (R54). -/
theorem PortEffect.unmarked (he : PortEffect s t) (h : ApplicationUnmarked s) :
    t.ports.a.mark = false := by
  cases he with
  | nothing hn => exact Bool.eq_false_iff.2 fun hm => Bool.eq_false_iff.1 h.1 (hn.mark .aPort hm)
  | admitted i => cases i <;> exact h.1
  | fetched i flips x address hx =>
    cases i with
    | pPort => exact h.1
    | nPort => exact h.1
    | aPort =>
      have hguarded : s.isGuarded x.window = false := by
        refine decide_eq_false fun e => ?_
        obtain ⟨w, hw, hcls⟩ := Option.map_eq_some_iff.1 e
        exact h.2 x hx w hw hcls
      change (s.ports.a.mark || s.isGuarded x.window) = false
      rw [h.1, hguarded]
      rfl

theorem ApplicationUnmarked.effect (h : ApplicationUnmarked s) (hw : WorkAccounted s)
    (ha : ViewsAnchored s) (hp : PortEffect s t) (hv : ViewEffect s t) : ApplicationUnmarked t := by
  refine ⟨hp.unmarked h, fun x hx w' hw' => ?_⟩
  obtain ⟨w, hw, hcls⟩ := hp.transfer_notGuarded hw ha h hx
  rw [hv.cls_eq hw hw']
  exact hcls

/-- Settles O59: the work and the views are kept as O58 and O56 have it, and what the A-port is admitted to
and fetches from is behind a view that an A-holder may hold. -/
theorem applicationsStayUnmarked : Obligations.ApplicationsStayUnmarked := by
  rintro s t ⟨hw, ha, h⟩ hstep
  refine ⟨workStaysAccounted.1 s t hw hstep, viewsStayAnchored s t ha hstep, ?_⟩
  unfold step at hstep
  split at hstep
  · cases hstep
    exact h
  · rename_i c rest _
    exact ApplicationUnmarked.effect (s := { s with pending := rest }) h hw ha
      (exec_portEffect hstep) (exec_viewEffect hstep)

end Sys2Proof.Machine
end

section
/-! SUPPORT. No command or event stops: what is granted lies in exchange memory (R51, R89, R103, R122, R170),
and no command touches the queue of those that wait.
-/

namespace Sys2Proof.Machine

variable {s t : State}

/-! ### What is granted lies in exchange memory -/

/-- A range inside a bank has an address (R99, R103). -/
theorem rangeAddress?_of_bankHolds (hr : RangesHeld s) {k : Nat} {n : BankNo} {offset count : Nat}
    (h : s.bankHolds k n offset count) : ∃ a, s.rangeAddress? k n offset count = some a := by
  obtain ⟨w, b, hw, hb, hle⟩ := h
  obtain ⟨-, hfit, -⟩ := hr
  obtain ⟨hpages, -, -⟩ := hfit k w n b hw hb
  have hin : b.firstPage * 256 + offset + count ≤ Config.memoryBytes := by
    simp only [Config.pageTotal, Config.memoryBytes] at *
    omega
  refine ⟨b.firstPage * 256 + offset, ?_⟩
  simp only [State.rangeAddress?, hw, Option.bind_some, hb, if_pos hin]

/-- A range inside one that a bank holds is held too. -/
theorem State.bankHolds.sub {k : Nat} {n : BankNo} {offset count start length : Nat}
    (h : s.bankHolds k n offset count) (hle : start + length ≤ count) :
    s.bankHolds k n (offset + start) length := by
  obtain ⟨w, b, hw, hb, hin⟩ := h
  exact ⟨w, b, hw, hb, by omega⟩

/-- The next chunk lies inside the move (R123). -/
theorem MoveRequest.chunk_inside {r : MoveRequest} (h : r.progress ≤ r.count) :
    r.chunkStart + r.chunkLength ≤ r.count := by
  have hle : r.chunkLength ≤ r.count - r.progress := Nat.min_le_right ..
  unfold MoveRequest.chunkStart
  split <;> omega

theorem RangesHeld.transfer (hr : RangesHeld s) {i : PortId} {x : Transfer}
    (hx : (s.port i).transfer = some x) : s.bankHolds x.window x.bank x.offset x.count := by
  obtain ⟨-, -, htransfers, -⟩ := hr
  exact htransfers i x hx

theorem RangesHeld.move (hr : RangesHeld s) {r : MoveRequest} {x : Resolved}
    (hhead : s.move.queue.head? = some r) (hx : r.resolved = some x) :
    s.bankHolds x.srcWindow x.srcBank r.srcOffset (r.mode.sourceSpan r.count)
      ∧ s.bankHolds x.dstWindow x.dstBank r.dstOffset r.count := by
  obtain ⟨-, -, -, hmoves, -⟩ := hr
  exact hmoves r x hhead hx

/-- The page that is scrubbed is a page of exchange memory (R89, R103). -/
theorem RangesHeld.scrubbed_page_lt (hr : RangesHeld s) {r : RetireRecord} {stage : ScrubStage}
    (hs : s.retire.state = .scrubbing r stage) : r.page < Config.pageTotal := by
  obtain ⟨-, hfit, -, -, hscrub, -⟩ := hr
  obtain ⟨w, b, hw, hb, -, hlt⟩ := hscrub r stage hs
  exact Nat.lt_of_lt_of_le hlt (hfit _ w _ b hw hb).1

theorem RangesHeld.startup_page_lt (hr : RangesHeld s) {page : Nat} {stage : ScrubStage}
    (hs : s.retire.state = .startUp page stage) : page < Config.pageTotal := by
  obtain ⟨-, -, -, -, -, -, hstart⟩ := hr
  exact hstart page stage hs

/-! ### The commands and events that address memory -/

theorem putGrant_runs (hr : RangesHeld s) (i : PortId) (flips : List BitFlip) :
    ∃ t, execPutGrant i flips s = .next t := by
  unfold execPutGrant
  split
  · exact ⟨s, rfl⟩
  · rename_i x hx
    obtain ⟨a, ha⟩ := rangeAddress?_of_bankHolds hr (hr.transfer (grantedTransfer_eq_some hx))
    rw [ha]
    exact ⟨_, rfl⟩

theorem fetchGrant_runs (hr : RangesHeld s) (i : PortId) (flips : List BitFlip) :
    ∃ t, execFetchGrant i flips s = .next t := by
  unfold execFetchGrant
  split
  · exact ⟨s, rfl⟩
  · rename_i x hx
    obtain ⟨a, ha⟩ := rangeAddress?_of_bankHolds hr (hr.transfer (grantedTransfer_eq_some hx))
    rw [ha]
    exact ⟨_, rfl⟩

theorem fillPatternRead_runs (hr : RangesHeld s) (flips : List BitFlip) :
    ∃ t, execFillPatternRead flips s = .next t := by
  unfold execFillPatternRead
  split
  · exact ⟨s, rfl⟩
  · rename_i r x hg
    obtain ⟨-, hhead, hx⟩ := grantedMove_eq_some hg
    obtain ⟨a, ha⟩ := rangeAddress?_of_bankHolds hr (hr.move hhead hx).1
    rw [ha]
    exact ⟨_, rfl⟩

theorem moveChunkGrant_runs (hr : RangesHeld s) (hm : MovesCoherent s) (flips : List BitFlip) :
    ∃ t, execMoveChunkGrant flips s = .next t := by
  unfold execMoveChunkGrant
  split
  · exact ⟨s, rfl⟩
  · rename_i r x hg
    obtain ⟨-, hhead, hx⟩ := grantedMove_eq_some hg
    obtain ⟨hsrc, hdst⟩ := hr.move hhead hx
    obtain ⟨-, -, -, hrequests⟩ := hm
    obtain ⟨-, hprogress, -⟩ := hrequests r (List.mem_of_mem_head? hhead)
    have hchunk := MoveRequest.chunk_inside hprogress
    obtain ⟨dst, hd⟩ := rangeAddress?_of_bankHolds hr (hdst.sub hchunk)
    rw [hd]
    rcases hmode : r.mode with _ | unit | _
    · rw [hmode] at hsrc
      obtain ⟨src, hs⟩ := rangeAddress?_of_bankHolds hr (hsrc.sub hchunk)
      simp only [hs]
      exact ⟨_, rfl⟩
    · exact ⟨_, rfl⟩
    · rw [hmode] at hsrc
      obtain ⟨src, hs⟩ := rangeAddress?_of_bankHolds hr (hsrc.sub hchunk)
      simp only [hs]
      exact ⟨_, rfl⟩

theorem pageScrubGrant_runs (hr : RangesHeld s) : ∃ t, execPageScrubGrant s = .next t := by
  unfold execPageScrubGrant
  split
  · rename_i r hs
    rw [if_pos (hr.scrubbed_page_lt hs)]
    split <;> exact ⟨_, rfl⟩
  all_goals exact ⟨s, rfl⟩

theorem startupScrubGrant_runs (hr : RangesHeld s) : ∃ t, execStartupScrubGrant s = .next t := by
  unfold execStartupScrubGrant
  split
  · exact ⟨s, rfl⟩
  · rename_i page hp
    obtain ⟨stage, hs⟩ := startupPage_eq_some hp
    rw [if_pos (hr.startup_page_lt hs)]
    exact ⟨_, rfl⟩

/-! ### Every command and event -/

/-- Every command or event runs where what is granted lies in exchange memory. -/
theorem exec_runs (hr : RangesHeld s) (hm : MovesCoherent s) (c : Instr) : ∃ t, exec c s = .next t := by
  cases c
  case putGrant i flips => exact putGrant_runs hr i flips
  case fetchGrant i flips => exact fetchGrant_runs hr i flips
  case fillPatternRead flips => exact fillPatternRead_runs hr flips
  case moveChunkGrant flips => exact moveChunkGrant_runs hr hm flips
  case pageScrubGrant => exact pageScrubGrant_runs hr
  case startupScrubGrant => exact startupScrubGrant_runs hr
  all_goals exact ⟨_, rfl⟩

theorem PortEffect.pending (h : PortEffect s t) : t.pending = s.pending := by
  cases h with
  | nothing hn => exact hn.pending
  | admitted => rfl
  | fetched => rfl

/-- Settles O2: each range that a grant addresses lies in its bank, each bank in exchange memory, and every
command leaves the queue of those that wait. -/
theorem noCommandStops : Obligations.NoCommandStops := by
  rintro c s ⟨-, -, hm, -, -, hr⟩
  obtain ⟨t, h⟩ := exec_runs hr hm c
  exact ⟨t, h, (exec_portEffect h).pending⟩

end Sys2Proof.Machine
end

section
/-! SUPPORT. LOAD STAGING, READ STAGING and CLEAR STAGING (R44 to R46), with what a port written leaves.
-/

namespace Sys2Proof.Machine

variable {s : State} {i : PortId}

/-! ### A port written -/

/-- A port is another one but for the places named; a place that no field mentions is as it was. -/
structure Port.SameBut (changed : Place → Prop) (i : PortId) (x y : Port) : Prop where
  state : changed (.portState i) ∨ y.state = x.state := by exact .inr rfl
  staging : ∀ c, changed (.stagingColumn i c)
    ∨ Table.value 0#8 y.staging c = Table.value 0#8 x.staging c := by exact fun _ => .inr rfl
  mark : changed (.guardedMark i) ∨ y.mark = x.mark := by exact .inr rfl
  last : changed (.lastResult i) ∨ y.last = x.last := by exact .inr rfl
  notices : changed (.notices i) ∨ y.notices = x.notices := by exact .inr rfl
  lost : changed (.noticesLost i) ∨ y.lost = x.lost := by exact .inr rfl
  transfer : changed (.transfer i) ∨ y.transfer = x.transfer := by exact .inr rfl
  completion : changed (.completion i) ∨ y.completion = x.completion := by exact .inr rfl
  response : changed (.response i) ∨ y.response = x.response := by exact .inr rfl

theorem unchangedBut_setPort {changed : Place → Prop} {y : Port}
    (h : Port.SameBut changed i (s.port i) y) : UnchangedBut changed s (s.setPort i y) := by
  intro p hp
  have field {α : Type} {f : Port → α} {j : PortId} (hf : j = i → f y = f (s.port i)) :
      f ((s.setPort i y).port j) = f (s.port j) := by
    rw [State.port_setPort]
    split
    · rename_i e
      exact e ▸ hf e
    · rfl
  cases p
  case portState => exact field fun e => h.state.resolve_left (e ▸ hp)
  case stagingColumn j c =>
    exact field (f := fun x => Table.value 0#8 x.staging c) fun e =>
      (h.staging c).resolve_left (e ▸ hp)
  case guardedMark => exact field fun e => h.mark.resolve_left (e ▸ hp)
  case lastResult => exact field fun e => h.last.resolve_left (e ▸ hp)
  case notices => exact field fun e => h.notices.resolve_left (e ▸ hp)
  case noticesLost => exact field fun e => h.lost.resolve_left (e ▸ hp)
  case transfer => exact field fun e => h.transfer.resolve_left (e ▸ hp)
  case completion => exact field fun e => h.completion.resolve_left (e ▸ hp)
  case response => exact field fun e => h.response.resolve_left (e ▸ hp)
  case actingSlot => exact s.setPort_acting i y
  case reserves => exact ⟨rfl, rfl⟩
  all_goals exact rfl

/-! ### The columns -/

/-- The one check of LOAD STAGING and READ STAGING (R44, R45). -/
def columnChecks (column count : BitVec 16) : List (Bool × ResultCode) :=
  [(decide (count.toNat = 0) || decide (512 < column.toNat + count.toNat), .badArg)]

theorem mirrors_checkColumns (column count : BitVec 16) :
    Mirrors (columnChecks column count) (checkColumns column count) :=
  mirrors_require (outsideColumns_eq ..)

theorem columnChecks_fail {column count : BitVec 16}
    (h : count.toNat = 0 ∨ 512 < column.toNat + count.toNat) :
    firstFailure (columnChecks column count) = some .badArg := by
  rw [columnChecks, firstFailure_cons, if_pos]
  simpa using h

theorem columnChecks_pass {column count : BitVec 16} (h0 : count.toNat ≠ 0)
    (h : column.toNat + count.toNat ≤ 512) : firstFailure (columnChecks column count) = none := by
  rw [columnChecks, firstFailure_cons, if_neg]
  · rfl
  · simp [h0, h]

theorem exec_loadStaging {column count : BitVec 16} {payload : List Byte}
    (h : payload.length = count.toNat) :
    exec (.loadStaging i column count payload) s
      = .next (s.onIdle i (s.checked i (checkColumns column count) fun _ =>
          (s.setPort i { s.port i with
            staging := Table.writeRun 0#8 (s.port i).staging column.toNat payload }).reply i .ok)) :=
  congrArg _ (if_pos h)

/-- The columns after a payload is written into them (R44). -/
theorem column_writeRun (s : State) (i : PortId) (column : Nat) (payload : List Byte) (c : Nat) :
    Table.value 0#8 (Table.writeRun 0#8 (s.port i).staging column payload) c
      = if column ≤ c ∧ c < column + payload.length then payload.getD (c - column) 0#8
        else s.column i c := Table.value_writeRun ..

/-- Settles O10: a payload of another length never reaches the busy rule, the one check is that of the
columns, and what passes is written into the run of columns. -/
theorem loadStagingWritesColumns : Obligations.LoadStagingWritesColumns := by
  intro i column count payload s
  refine ⟨fun hlen => refused_of_reply (congrArg _ (if_neg hlen)), fun hlen hi => ⟨fun hout => ?_,
    fun h0 hin => ?_⟩⟩
  · exact refused_of_mirrors hi (exec_loadStaging hlen) (mirrors_checkColumns column count)
      (columnChecks_fail hout)
  · obtain ⟨-, -, he⟩ := acts_of_mirrors hi (exec_loadStaging hlen)
      (mirrors_checkColumns column count) (columnChecks_pass h0 hin)
    have hcol := column_writeRun s i column.toNat payload
    rw [hlen] at hcol
    refine ⟨_, he, by simp [State.answered], fun c => ?_, ?_⟩
    · rw [← hcol, State.column]
      simp
    · refine UnchangedBut.answer (p := fun x => ∃ c, column.toNat ≤ c
        ∧ c < column.toNat + count.toNat ∧ x = .stagingColumn i c) ?_ (fun _ => .inl) (.inr rfl)
      refine unchangedBut_setPort { staging := fun c => ?_ }
      by_cases hc : column.toNat ≤ c ∧ c < column.toNat + count.toNat
      · exact .inl ⟨c, hc.1, hc.2, rfl⟩
      · exact .inr ((hcol c).trans (if_neg hc))

/-- Settles O11: the answer is the run of columns as it is read, and nothing is written. -/
theorem readStagingAnswersColumns : Obligations.ReadStagingAnswersColumns := by
  intro i column count s hi
  refine ⟨fun hout => refused_of_mirrors hi rfl (mirrors_checkColumns column count)
    (columnChecks_fail hout), fun h0 hin => ?_⟩
  obtain ⟨-, -, he⟩ := acts_of_mirrors (c := .readStaging i column count) hi rfl
    (mirrors_checkColumns column count) (columnChecks_pass h0 hin)
  refine ⟨_, he, ?_, s.answer_unchangedBut i .ok _⟩
  rw [State.answered, State.port_answer_same]
  rfl

theorem exec_clearStaging (hi : (s.port i).state = .idle) :
    exec (.clearStaging i) s
      = .next ((s.setPort i { s.port i with staging := [], mark := false }).reply i .ok) :=
  congrArg Host.Outcome.next (State.onIdle_idle hi _)

/-- Settles O12: an empty table of columns holds zero in each, and the mark goes with it. -/
theorem clearStagingClearsAll : Obligations.ClearStagingClearsAll := by
  intro i s hi
  refine ⟨_, exec_clearStaging hi, by simp [State.answered], fun c => ?_, by simp, ?_⟩
  · rw [State.column]
    simp [Table.value]
  · refine UnchangedBut.answer (p := fun x => (∃ c, x = .stagingColumn i c) ∨ x = .guardedMark i) ?_
      (fun _ h => h.imp_right .inl) (.inr (.inr rfl))
    exact unchangedBut_setPort { staging := fun c => .inl (.inl ⟨c, rfl⟩), mark := .inl (.inr rfl) }

end Sys2Proof.Machine
end

section
/-! SUPPORT. PUT and FETCH from their admission to their grant (R48, R49, R51 to R54).
-/

namespace Sys2Proof.Machine

variable {s : State} {i : PortId} {x : Transfer}

/-! ### Admission -/

theorem unchangedBut_acceptTransfer (s : State) (i : PortId) (x : Transfer) (w : Window) :
    UnchangedBut (fun y => y = .portState i ∨ y = .transfer i ∨ y = .completion i
      ∨ y = .window x.window ∨ y = .response i) s (s.acceptTransfer i x w) := by
  have hport : UnchangedBut (fun y => y = .portState i ∨ y = .transfer i ∨ y = .completion i)
      (s.putWindow x.window { w with inFlight := w.inFlight + 1 })
      ((s.putWindow x.window { w with inFlight := w.inFlight + 1 }).setPort i
        { s.port i with state := .executing, transfer := some x, completion := none }) :=
    unchangedBut_setPort
      { state := .inl (.inl rfl), transfer := .inl (.inr (.inl rfl))
        completion := .inl (.inr (.inr rfl)) }
  refine ((unchangedBut_putWindow s x.window _).trans hport (r := fun y => y = .portState i
    ∨ y = .transfer i ∨ y = .completion i ∨ y = .window x.window) ?_ ?_).answer ?_ ?_
  · exact fun _ h => .inr (.inr (.inr h))
  · exact fun _ h => h.imp_right fun h => h.imp_right .inl
  · exact fun _ h => h.imp_right fun h => h.imp_right fun h => h.imp_right .inl
  · exact .inr (.inr (.inr (.inr rfl)))

/-- A transfer admitted, as the manual lists it (R49). -/
theorem acceptTransfer_acts (s : State) (i : PortId) (x : Transfer) (w : Window) :
    (s.acceptTransfer i x w).answered i .accepted []
      ∧ ((s.acceptTransfer i x w).port i).state = .executing
      ∧ ((s.acceptTransfer i x w).port i).transfer = some x
      ∧ (s.acceptTransfer i x w).requests (.port i) = true
      ∧ (s.acceptTransfer i x w).window? x.window = some { w with inFlight := w.inFlight + 1 }
      ∧ UnchangedBut (fun y => y = .portState i ∨ y = .transfer i ∨ y = .completion i
          ∨ y = .window x.window ∨ y = .response i) s (s.acceptTransfer i x w) := by
  have hp : (s.acceptTransfer i x w).port i = { s.port i with
      state := .executing, transfer := some x, completion := none
      response := some ⟨.accepted, []⟩ } := by
    simp [State.acceptTransfer]
  refine ⟨congrArg Port.response hp, congrArg Port.state hp, congrArg Port.transfer hp,
    congrArg Port.requests hp, s.window?_putWindow_same x.window _,
    unchangedBut_acceptTransfer s i x w⟩

/-- Settles O13: the checks of admission are those of the list, what they find is the bank addressed, and
what passes is admitted. -/
theorem transferAdmission : Obligations.TransferAdmission := by
  refine ⟨fun i a s code hi => ⟨refused_of_mirrors hi rfl (mirrors_checkAdmission .put i a s),
    refused_of_mirrors hi rfl (mirrors_checkAdmission .fetch i a s)⟩,
    fun c kind i a s v w b hkind hi hc hv hw hb => ?_⟩
  have hexec : exec c s = .next (s.onIdle i (s.checked i (checkAdmission kind i a s) fun x =>
      s.acceptTransfer i x.1 x.2)) := by
    rcases hkind with ⟨rfl, rfl⟩ | ⟨rfl, rfl⟩ <;> rfl
  obtain ⟨x, hx, he⟩ := acts_of_mirrors hi hexec (mirrors_checkAdmission kind i a s) hc
  obtain ⟨v', w', b', hv', hw', hb', rfl⟩ := checkAdmission_found hx
  cases hv.symm.trans (callerView_eq_ok hv')
  cases hw.symm.trans hw'
  cases hb.symm.trans hb'
  exact ⟨_, he, acceptTransfer_acts s i
    ⟨kind, v.window, b.1, a.offset.toNat, a.column.toNat, a.count.toNat⟩ w⟩

/-! ### What is granted, and where -/

/-- The transfer of the port that the arbiter grants next (R113). -/
theorem grantedTransfer_of_nextGrant {kind : TransferKind} (hg : s.nextGrant = some (.port i))
    (hx : (s.port i).transfer = some x) (hk : x.kind = kind) : s.grantedTransfer i kind = some x := by
  simp [State.grantedTransfer, State.granted, hg, hx, hk]

/-- The address of a range in a bank (R51, R99). -/
theorem rangeAddress?_eq {k : Nat} {n : BankNo} {offset count : Nat} {w : Window} {b : Bank}
    (hw : s.window? k = some w) (hb : w.bank? n = some b)
    (h : b.firstPage * 256 + offset + count ≤ 524288) :
    s.rangeAddress? k n offset count = some (b.firstPage * 256 + offset) := by
  simp only [State.rangeAddress?, hw, Option.bind_some, hb]
  exact if_pos h

/-- A grant begins with what nature has done to memory, and is the arbiter's last (R100, R113). -/
theorem unchangedBut_beginGrant (s : State) (r : Requester) (flips : List BitFlip) :
    UnchangedBut (fun y => y.inMemory ∨ y = .lastGranted) s (s.beginGrant r flips) := by
  intro y hy
  cases y
  case memoryByte => exact absurd (.inl trivial) hy
  case memoryWord => exact absurd (.inl trivial) hy
  case lastGranted => exact absurd (.inr rfl) hy
  case reserves => exact ⟨rfl, rfl⟩
  all_goals exact rfl

theorem unchangedBut_memory (s : State) (m : Memory) :
    UnchangedBut Place.inMemory s { s with xm := m } := by
  intro y hy
  cases y
  case memoryByte => exact absurd trivial hy
  case memoryWord => exact absurd trivial hy
  case reserves => exact ⟨rfl, rfl⟩
  all_goals exact rfl

/-! ### The granted PUT -/

theorem exec_putGrant {w : Window} {b : Bank} (flips : List BitFlip)
    (hg : s.nextGrant = some (.port i)) (hx : (s.port i).transfer = some x) (hk : x.kind = .put)
    (hw : s.window? x.window = some w) (hb : w.bank? x.bank = some b)
    (h : b.firstPage * 256 + x.offset + x.count ≤ 524288) :
    exec (.putGrant i flips) s
      = .next ((s.beginGrant (.port i) flips).performPut i x (b.firstPage * 256 + x.offset)) := by
  change execPutGrant i flips s = _
  simp only [execPutGrant, grantedTransfer_of_nextGrant hg hx hk, rangeAddress?_eq hw hb h]

theorem unchangedBut_performPut (s : State) (i : PortId) (x : Transfer) (address : Nat) :
    UnchangedBut (fun y => y.inMemory ∨ y = .completion i) s (s.performPut i x address) := by
  have hport (c : Completion) : UnchangedBut (· = .completion i) s
      (s.setPort i { s.port i with completion := some c }) :=
    unchangedBut_setPort { completion := .inl rfl }
  exact (hport _).trans (unchangedBut_memory _ _) (fun _ => .inr) fun _ => .inl

/-- Settles O14: the PUT that the arbiter grants next is written at the address of its range. -/
theorem putGrantWritesRange : Obligations.PutGrantWritesRange := by
  intro i flips s x w b hg hx hk hw hb h
  refine ⟨_, exec_putGrant flips hg hx hk hw hb h, Memory.written_writeRange .., ?_, rfl, ?_⟩
  · exact congrArg Port.completion (State.port_setPort_same ..)
  · refine (unchangedBut_beginGrant s (.port i) flips).trans (unchangedBut_performPut _ i x _) ?_ ?_
    · exact fun _ h => h.imp_right .inr
    · exact fun _ h => h.imp_right .inl

/-! ### The granted FETCH -/

theorem exec_fetchGrant {w : Window} {b : Bank} (flips : List BitFlip)
    (hg : s.nextGrant = some (.port i)) (hx : (s.port i).transfer = some x) (hk : x.kind = .fetch)
    (hw : s.window? x.window = some w) (hb : w.bank? x.bank = some b)
    (h : b.firstPage * 256 + x.offset + x.count ≤ 524288) :
    exec (.fetchGrant i flips) s
      = .next ((s.beginGrant (.port i) flips).performFetch i x (b.firstPage * 256 + x.offset)) := by
  change execFetchGrant i flips s = _
  simp only [execFetchGrant, grantedTransfer_of_nextGrant hg hx hk, rangeAddress?_eq hw hb h]

/-- The port after a granted FETCH (R53, R54). -/
theorem port_performFetch (s : State) (i : PortId) (x : Transfer) (address : Nat) :
    (s.performFetch i x address).port i = { s.port i with
      staging := Table.writeRun 0#8 (s.port i).staging x.column (s.xm.readRange address x.count)
      mark := (s.port i).mark || s.isGuarded x.window
      completion := some ⟨s.xm.countCorrected (touchedWords address x.count),
        s.xm.countUncorrectable (touchedWords address x.count)⟩ } := State.port_setPort_same ..

/-- The columns after a granted FETCH (R53). -/
theorem column_performFetch (s : State) (i : PortId) (x : Transfer) (address c : Nat) :
    (s.performFetch i x address).column i c
      = if x.column ≤ c ∧ c < x.column + x.count then s.xm.delivered (address + (c - x.column))
        else s.column i c := by
  have hlen : (s.xm.readRange address x.count).length = x.count := by simp [Memory.readRange]
  rw [State.column, port_performFetch, column_writeRun, hlen]
  split
  · have hlt : c - x.column < x.count := by omega
    simp [Memory.readRange, List.getElem?_range hlt]
  · rfl

theorem unchangedBut_performFetch (s : State) (i : PortId) (x : Transfer) (address : Nat) :
    UnchangedBut (fun y => (∃ c, y = .stagingColumn i c) ∨ y = .guardedMark i ∨ y = .completion i) s
      (s.performFetch i x address) :=
  unchangedBut_setPort
    { staging := fun c => .inl (.inl ⟨c, rfl⟩), mark := .inl (.inr (.inl rfl))
      completion := .inl (.inr (.inr rfl)) }

/-- Settles O15: the FETCH that the arbiter grants next reads the address of its range. -/
theorem fetchGrantReadsRange : Obligations.FetchGrantReadsRange := by
  intro i flips s x w b hg hx hk hw hb h
  have hport := port_performFetch (s.beginGrant (.port i) flips) i x (b.firstPage * 256 + x.offset)
  have hguarded : s.isGuarded x.window = decide (w.cls = .guarded) := by
    simp [State.isGuarded, hw]
  refine ⟨_, exec_fetchGrant flips hg hx hk hw hb h, rfl, column_performFetch _ i x _, ?_,
    congrArg Port.completion hport, rfl, ?_⟩
  · rw [← hguarded]
    exact congrArg Port.mark hport
  · refine (unchangedBut_beginGrant s (.port i) flips).trans (unchangedBut_performFetch _ i x _) ?_ ?_
    · exact fun _ h => h.imp_right fun h => .inr (.inr (.inr h))
    · exact fun _ h => .inr (h.imp_right fun h => h.imp_right .inl)

end Sys2Proof.Machine
end

section
/-! SUPPORT. The completion of a transfer (R55 to R57, R166).
-/

namespace Sys2Proof.Machine

variable {s : State} {i : PortId} {x : Transfer} {c : Completion} {w : Window}

/-! ### The Directory's part -/

/-- The notice of a FETCH that read an uncorrectable word (R20, R55). -/
def completionDamage (s : State) (x : Transfer) (c : Completion) (w : Window) : List Notice :=
  if x.kind = .fetch ∧ c.uncorrectable ≠ 0 then damageNotices s x.window w else []

/-- The count lowered, and the window damaged where the transfer damages it (R55 steps 1 and 2). -/
theorem State.lowerTransfer_eq (hw : s.window? x.window = some w) :
    s.lowerTransfer x c
      = (s.putWindow x.window (w.lowered (x.damages c))).postAll (completionDamage s x c w) := by
  have hlow : s.lowerInFlight x.window
      = s.putWindow x.window { w with inFlight := w.inFlight - 1 } := by
    simp only [State.lowerInFlight, hw]
  unfold State.lowerTransfer completionDamage Transfer.damages
  split
  · rename_i hd
    rw [hlow, State.setDamaged_eq, State.window?_putWindow_same]
    rcases hdam : w.damaged
    · simp [hd, hdam, State.putWindow, Table.put_put, Window.lowered, damageNotices]
    · simp [hd, hdam, Window.lowered, damageNotices]
  · rename_i hd
    rw [hlow]
    simp [hd, Window.lowered]

/-- What the completion leaves of the notices (R55, R72). -/
theorem ports_completed (hw : s.window? x.window = some w) :
    ((s.lowerTransfer x c).quietPoint x.window).ports
      = (completionDamage s x c w
          ++ settledNotices s x.window (w.lowered (x.damages c))).foldl Ports.post s.ports := by
  rw [State.ports_quietPoint, State.window?_lowerTransfer, if_pos rfl, hw, State.lowerTransfer_eq hw,
    List.foldl_append]
  rfl

theorem unchangedBut_quietPoint (s : State) (k : Nat) :
    UnchangedBut (fun y => y.isNotice ∨ y = .window k ∨ y = .retireQueue) s (s.quietPoint k) := by
  rcases hw : s.window? k with _ | w
  · rw [State.quietPoint_eq, hw]
    exact .refl _ s
  · obtain ⟨ns, h | h⟩ := State.quietPoint_eq_putQueued hw
    · rw [h]
      exact (unchangedBut_putQueued s k _ _).trans (unchangedBut_postAll _ ns) (fun _ => .inr)
        fun _ => .inl
    · rw [h]
      exact .refl _ s

/-- What the Directory leaves in the completion of a transfer (R55). -/
theorem unchangedBut_completed (hw : s.window? x.window = some w) :
    UnchangedBut (fun y => y.isNotice ∨ y = .window x.window ∨ y = .retireQueue) s
      ((s.lowerTransfer x c).quietPoint x.window) := by
  have hlow : UnchangedBut (fun y => y.isNotice ∨ y = .window x.window ∨ y = .retireQueue) s
      (s.lowerTransfer x c) := by
    rw [State.lowerTransfer_eq hw]
    exact (unchangedBut_putWindow s x.window _).trans (unchangedBut_postAll _ _)
      (fun _ h => .inr (.inl h)) fun _ => .inl
  exact hlow.trans (unchangedBut_quietPoint _ _) (fun _ => id) fun _ => id

/-! ### The port's part -/

theorem exec_transferCompletion (hx : (s.port i).transfer = some x)
    (hc : (s.port i).completion = some c) :
    exec (.transferCompletion i) s = .next (s.complete i x c) := by
  change execTransferCompletion i s = _
  simp only [execTransferCompletion, hx, hc]

theorem complete_executing (hs : (s.port i).state = .executing) :
    s.complete i x c
      = ((s.lowerTransfer x c).quietPoint x.window).freePort i (completionResult x c) :=
  (State.complete_eq ..).trans (if_neg (by rw [hs]; decide))

theorem complete_resetting (hs : (s.port i).state = .resetting) :
    s.complete i x c
      = (((s.lowerTransfer x c).quietPoint x.window).freePort i (completionResult x c)).actReset i :=
  (State.complete_eq ..).trans (if_pos hs)

theorem unchangedBut_freePort (s : State) (i : PortId) (last : LastResult) :
    UnchangedBut (fun y => y = .portState i ∨ y = .transfer i ∨ y = .completion i ∨ y = .lastResult i) s
      (s.freePort i last) :=
  unchangedBut_setPort
    { state := .inl (.inl rfl), transfer := .inl (.inr (.inl rfl))
      completion := .inl (.inr (.inr (.inl rfl))), last := .inl (.inr (.inr (.inr rfl))) }

/-- The freeing of a port posts nothing. -/
theorem posted_freePort {t : State} {ns : List Notice} (h : t.ports = ns.foldl Ports.post s.ports)
    (i : PortId) (last : LastResult) : Posted s (t.freePort i last) ns := by
  intro j
  have hframe := unchangedBut_freePort t i last
  exact ⟨(hframe (.notices j) (by simp)).trans (by rw [State.port, h]; rfl),
    (hframe (.noticesLost j) (by simp)).trans (by rw [State.port, h]; rfl)⟩

/-- The completion on an EXECUTING port, as the manual lists it (R55, R56). -/
theorem completion_acts (hs : (s.port i).state = .executing) (hx : (s.port i).transfer = some x)
    (hc : (s.port i).completion = some c) (hw : s.window? x.window = some w) :
    ∃ t, exec (.transferCompletion i) s = .next t
      ∧ t.window? x.window = some (w.lowered (x.damages c)).settled
      ∧ t.retire.queue = s.retire.queue
          ++ (if (w.lowered (x.damages c)).joinsQueue then [x.window] else [])
      ∧ Posted s t (completionDamage s x c w
          ++ settledNotices s x.window (w.lowered (x.damages c)))
      ∧ (t.port i).state = .idle ∧ (t.port i).transfer = none ∧ (t.port i).completion = none
      ∧ (t.port i).last = completionResult x c
      ∧ UnchangedBut (fun y => y.isNotice ∨ y = .window x.window ∨ y = .retireQueue
          ∨ y = .portState i ∨ y = .transfer i ∨ y = .completion i ∨ y = .lastResult i) s t := by
  have hport : (((s.lowerTransfer x c).quietPoint x.window).freePort i (completionResult x c)).port i
      = { ((s.lowerTransfer x c).quietPoint x.window).port i with
          state := .idle, transfer := none, completion := none, last := completionResult x c } :=
    State.port_setPort_same ..
  have hlow : (s.lowerTransfer x c).window? x.window = some (w.lowered (x.damages c)) := by
    rw [State.window?_lowerTransfer, if_pos rfl, hw]
    rfl
  refine ⟨_, exec_transferCompletion hx hc, ?_⟩
  rw [complete_executing hs]
  refine ⟨?_, ?_, posted_freePort (ports_completed hw) i _, congrArg Port.state hport,
    congrArg Port.transfer hport, congrArg Port.completion hport, congrArg Port.last hport, ?_⟩
  · refine (State.window?_quietPoint _ x.window x.window).trans ?_
    rw [if_pos rfl, hlow]
    rfl
  · refine (State.queue_quietPoint _ x.window).trans ?_
    rw [hlow, State.lowerTransfer_eq hw]
    rfl
  · refine (unchangedBut_completed hw).trans (unchangedBut_freePort _ i _) ?_ fun _ h =>
      .inr (.inr (.inr h))
    exact fun _ h => h.imp_right fun h => h.imp_right .inl

/-! ### The reset that waits -/

/-- A port in another of its states. -/
def State.withPortState (s : State) (i : PortId) (y : PortState) : State :=
  s.setPort i { s.port i with state := y }

theorem post_withPortState (ps : Ports) (i : PortId) (y : PortState) (n : Notice) :
    (ps.set i { ps.get i with state := y }).post n
      = (ps.post n).set i { (ps.post n).get i with state := y } := by
  refine Ports.ext_get (fun j => ?_) (by simp)
  simp only [Ports.get_post, Ports.get_set]
  by_cases hj : j = i
  · subst hj
    simp only [if_true]
    by_cases hp : j = n.holder.port
    · simp only [if_pos hp]
      split <;> rfl
    · simp only [if_neg hp]
  · simp only [if_neg hj]

theorem posts_withPortState (ps : Ports) (i : PortId) (y : PortState) (ns : List Notice) :
    ns.foldl Ports.post (ps.set i { ps.get i with state := y })
      = (ns.foldl Ports.post ps).set i { (ns.foldl Ports.post ps).get i with state := y } := by
  induction ns generalizing ps with
  | nil => rfl
  | cons n ns ih => rw [List.foldl_cons, post_withPortState, ih, List.foldl_cons]

/-- Posting does not see the state of a port (R163). -/
theorem postAll_withPortState (s : State) (i : PortId) (y : PortState) (ns : List Notice) :
    (s.withPortState i y).postAll ns = (s.postAll ns).withPortState i y := by
  have h := posts_withPortState s.ports i y ns
  unfold State.withPortState State.postAll State.setPort State.port
  rw [h]

/-- The quiet-point action does not see the state of a port. -/
theorem quietPoint_withPortState (s : State) (i : PortId) (y : PortState) (k : Nat) :
    (s.withPortState i y).quietPoint k = (s.quietPoint k).withPortState i y := by
  have hw : (s.withPortState i y).window? k = s.window? k := rfl
  rw [State.quietPoint_eq, State.quietPoint_eq s, hw]
  split
  · rfl
  · rename_i w _
    split
    · rfl
    · split
      · rfl
      · exact postAll_withPortState (s.putWindow k w.settled) i y _

/-- The lowering of a transfer's window does not see the state of a port. -/
theorem lowerTransfer_withPortState (s : State) (i : PortId) (y : PortState) (x : Transfer)
    (c : Completion) :
    (s.withPortState i y).lowerTransfer x c = (s.lowerTransfer x c).withPortState i y := by
  rcases hw : s.window? x.window with _ | w
  · have hsame (u : State) (hu : u.window? x.window = none) : u.lowerTransfer x c = u := by
      simp [State.lowerTransfer, State.lowerInFlight, State.setDamaged, hu]
    rw [hsame s hw, hsame (s.withPortState i y) hw]
  · rw [State.lowerTransfer_eq hw, State.lowerTransfer_eq (s := s.withPortState i y) hw]
    exact postAll_withPortState (s.putWindow x.window (w.lowered (x.damages c))) i y _

/-- A port that is freed was in any state before. -/
theorem freePort_withPortState (s : State) (i : PortId) (y : PortState) (last : LastResult) :
    (s.withPortState i y).freePort i last = s.freePort i last := by
  simp [State.withPortState, State.freePort, State.setPort, State.port]

theorem unchangedBut_moveQueue (s : State) (queue : List MoveRequest) :
    UnchangedBut (· = .moveQueue) s { s with move.queue := queue } := by
  intro y hy
  cases y
  case moveQueue => exact absurd rfl hy
  case reserves => exact ⟨rfl, rfl⟩
  all_goals exact rfl

/-- The port reset on an IDLE port, as the manual lists it (R128, R166). -/
theorem actReset_acts (hs : (s.port i).state = .idle) :
    ((s.actReset i).port i).state = .idle ∧ ((s.actReset i).port i).notices = []
      ∧ ((s.actReset i).port i).lost = false ∧ ((s.actReset i).port i).last = ⟨.ok, 0, 0, 0⟩
      ∧ (s.actReset i).move.queue
          = ((s.move.queue.filter fun r => r.running || decide (r.requester.port ≠ i)).map
              fun r => if r.requester.port = i then { r with resetMark := true } else r)
      ∧ UnchangedBut (fun y => y = .notices i ∨ y = .noticesLost i ∨ y = .lastResult i
          ∨ y = .moveQueue) s (s.actReset i) := by
  have hport : (s.actReset i).port i = { s.port i with
      notices := [], lost := false, last := LastResult.initial, state := .idle } :=
    State.port_setPort_same ..
  refine ⟨congrArg Port.state hport, congrArg Port.notices hport, congrArg Port.lost hport,
    congrArg Port.last hport, ?_, ?_⟩
  · simp only [decide_not]
    rfl
  · have hset : UnchangedBut (fun y => y = .notices i ∨ y = .noticesLost i ∨ y = .lastResult i) s
        (s.setPort i { s.port i with
          notices := [], lost := false, last := LastResult.initial, state := .idle }) :=
      unchangedBut_setPort
        { state := .inr hs.symm, notices := .inl (.inl rfl), lost := .inl (.inr (.inl rfl))
          last := .inl (.inr (.inr rfl)) }
    refine hset.trans (unchangedBut_moveQueue _ (resetMoves i s.move.queue)) ?_ fun _ h =>
      .inr (.inr (.inr h))
    exact fun _ h => h.imp_right fun h => h.imp_right .inl

/-- Settles O16: an EXECUTING port is freed after the Directory has taken its part, and a RESETTING one is
freed alike and then reset. -/
theorem completionEndsTransfer : Obligations.CompletionEndsTransfer := by
  refine ⟨fun i s x c w w' hs hx hc hw hw' => ?_, fun i s u x c hs hx hc hu => ?_⟩
  · subst hw'
    exact completion_acts hs hx hc hw
  · have hstate : ((s.withPortState i .executing).port i).state = .executing := by
      simp [State.withPortState]
    have hfreed : u = ((s.lowerTransfer x c).quietPoint x.window).freePort i (completionResult x c) := by
      have hexec := exec_transferCompletion (s := s.withPortState i .executing) (i := i) (x := x)
        (c := c) (by simp [State.withPortState, hx]) (by simp [State.withPortState, hc])
      rw [complete_executing hstate, lowerTransfer_withPortState, quietPoint_withPortState,
        freePort_withPortState] at hexec
      cases hu.symm.trans hexec
      rfl
    refine ⟨_, exec_transferCompletion hx hc, ?_⟩
    rw [complete_resetting hs, ← hfreed]
    exact actReset_acts (by simp [hfreed, State.freePort])

end Sys2Proof.Machine
end

section
/-! SUPPORT. STAGE LIMIT and SWAP BANKS: the checks that they share, and what each leaves (R65, R66, R68, R69,
R74).
-/

namespace Sys2Proof.Machine

variable {s : State} {i : PortId} {selector : Byte}

/-! ### The shared checks -/

/-- The shadow bank is looked up as the manual's addressed bank is (R6, R64). -/
theorem found_shadow {β : Type} (w : Window) (f : BankNo → Bank → Except ResultCode β) :
    (do
      let n ← found (w.resolve .shadow) .badArg
      let b ← found (w.bank? n) .badArg
      f n b) = found (w.addressed 0x01#8) .badArg >>= fun b => f b.1 b.2 :=
  found_addressed w 0x01#8 f

/-- STAGE LIMIT and SWAP BANKS refuse alike, as the manual lists it (R69, R74). -/
theorem mirrors_checkSwapper (i : PortId) (selector : Byte) (s : State) :
    Mirrors (swapChecks i selector s) (checkSwapper i selector s) := by
  refine (mirrors_callerView s (s.caller i) selector).bind fun v hv => ?_
  rw [callerView_eq_ok hv]
  refine .cons (mirrors_liveWindow s v) fun w hw => .cons (mirrors_require rfl) fun _ _ => ?_
  rw [found_shadow, show s.behind (some v) = some w from (liveWindow_eq_ok.1 hw).1]
  exact .cons (mirrors_found rfl) fun _ _ => rfl

/-- What the shared checks find is the index behind the caller's view, the window at it and its shadow
bank. -/
theorem checkSwapper_found {x : Nat × Window × Bank} (h : checkSwapper i selector s = .ok x) :
    ∃ v n, s.viewAt (s.caller i) selector = some v ∧ x.1 = v.window
      ∧ s.window? v.window = some x.2.1 ∧ x.2.1.addressed 0x01#8 = some (n, x.2.2) := by
  simp only [checkSwapper, found_shadow, Checks.bind_eq_ok, liveWindow_eq_ok, found_eq_ok,
    Checks.pure_eq, Except.ok.injEq] at h
  obtain ⟨v, hv, w, ⟨hw, -⟩, -, -, b, hb, rfl⟩ := h
  exact ⟨v, b.1, callerView_eq_ok hv, rfl, hw, hb⟩

/-- The bank that SHADOW addresses is the one that is not live (R6). -/
theorem addressed_shadow_number {w : Window} {n : BankNo} {b : Bank}
    (h : w.addressed 0x01#8 = some (n, b)) : n = w.live.other := by
  simp only [Window.addressed, BitVec.reduceEq, if_false, true_and, Option.ite_none_right_eq_some,
    Option.map_eq_some_iff, Prod.mk.injEq] at h
  obtain ⟨-, -, -, hn, -⟩ := h
  exact hn.symm

/-! ### STAGE LIMIT -/

/-- STAGE LIMIT refuses as the manual lists it (R74). -/
theorem mirrors_checkStageLimit (i : PortId) (selector : Byte) (limit : BitVec 24) (s : State) :
    Mirrors (stageChecks i selector limit s) (checkStageLimit i selector limit s) := by
  refine (mirrors_checkSwapper i selector s).bind fun x hx => ?_
  obtain ⟨v, n, hv, -, hw, hb⟩ := checkSwapper_found hx
  rw [hv, show s.behind (some v) = some x.2.1 from hw, Option.bind_some, hb]
  exact .cons (mirrors_require (by simp)) fun _ _ => .cons (mirrors_require rfl) fun _ _ => rfl

/-- Settles O23: the checks are those of the list, and the bank that they find is the one addressed as
SHADOW. -/
theorem stageLimitSetsShadow : Obligations.StageLimitSetsShadow := by
  refine fun i selector limit s hi =>
    ⟨fun _ => refused_of_mirrors hi rfl (mirrors_checkStageLimit ..), fun v w n b hc hv hw hb => ?_⟩
  obtain ⟨⟨k, w', b'⟩, hx, he⟩ := acts_of_mirrors (c := .stageLimit i selector limit) hi rfl
    (mirrors_checkStageLimit i selector limit s) hc
  obtain ⟨v', n', hv', rfl, hw', hb'⟩ := checkSwapper_found (checkStageLimit_ok hx).1
  cases hv'.symm.trans hv
  cases hw'.symm.trans hw
  cases hb'.symm.trans hb
  rw [← addressed_shadow_number hb] at he
  exact ⟨_, he, by simp [State.answered], s.window?_putWindow_same v.window _,
    (unchangedBut_putWindow s v.window _).answer (fun _ => .inl) (.inr rfl)⟩

/-! ### SWAP BANKS -/

/-- The exchange of the banks changes the window and the notices alone (R65, R66). -/
theorem unchangedBut_exchange (s : State) (k : Nat) (w : Window) (source : SwapSource) :
    UnchangedBut (fun x => x.isNotice ∨ x = .window k) s (s.exchange k w source) :=
  (unchangedBut_putWindow s k _).trans (unchangedBut_postAll _ _) (fun _ => .inr) fun _ => .inl

/-- An exchange request on a window that is not quiet leaves swap pending with the source first recorded,
and changes nothing else (R68). -/
theorem requestExchange_pends {k : Nat} {w : Window} (source : SwapSource) (hw : s.window? k = some w)
    (hq : w.quiet = false) :
    (s.requestExchange k w source).window? k
        = some { w with swapPending := w.swapPending.or (some source) }
      ∧ UnchangedBut (· = .window k) s (s.requestExchange k w source) := by
  rcases hp : w.swapPending with _ | first
  · have h : s.requestExchange k w source = s.putWindow k { w with swapPending := some source } := by
      simp [State.requestExchange, hq, hp]
    rw [h]
    exact ⟨s.window?_putWindow_same k _, unchangedBut_putWindow s k _⟩
  · have h : s.requestExchange k w source = s := by
      simp [State.requestExchange, hq, hp]
    rw [h, Option.some_or, ← hp]
    exact ⟨hw, .refl _ s⟩

/-- What SWAP BANKS runs where its checks pass (R69). -/
theorem exec_swapBanks {v : View} {w : Window} (hi : (s.port i).state = .idle)
    (hc : firstFailure (swapChecks i selector s) = none)
    (hv : s.viewAt (s.caller i) selector = some v) (hw : s.window? v.window = some w) :
    exec (.swapBanks i selector) s
      = .next ((s.requestExchange v.window w .holder).answer i .ok
          [if w.quiet then 0x00#8 else 0x01#8]) := by
  obtain ⟨⟨k, w', b⟩, hx, he⟩ := acts_of_mirrors (c := .swapBanks i selector) hi rfl
    (mirrors_checkSwapper i selector s) hc
  obtain ⟨v', -, hv', rfl, hw', -⟩ := checkSwapper_found hx
  cases hv'.symm.trans hv
  cases hw'.symm.trans hw
  exact he

/-- Settles O24: the checks are those of the list, and the request is an exchange where the window is quiet
and a pending swap where it is not. -/
theorem swapBanksExchanges : Obligations.SwapBanksExchanges := by
  refine fun i selector s hi => ⟨fun _ => refused_of_mirrors hi rfl (mirrors_checkSwapper ..),
    fun v w hc hv hw => ⟨fun hq => ?_, fun hq => ?_⟩⟩
  · have he := exec_swapBanks hi hc hv hw
    rw [State.requestExchange, if_pos hq, if_pos hq] at he
    exact ⟨_, he, by simp [State.answered],
      (State.window?_exchange s v.window v.window w .holder).trans (if_pos rfl),
      posted_answer rfl _ i .ok [0x00#8],
      (unchangedBut_exchange s v.window w .holder).answer (fun _ h => h.imp_right .inl)
        (.inr (.inr rfl))⟩
  · obtain ⟨hpends, hkeeps⟩ := requestExchange_pends .holder hw hq
    refine ⟨_, exec_swapBanks hi hc hv hw, by simp [State.answered, hq], hpends, ?_⟩
    exact hkeeps.answer (fun _ => .inl) (.inr rfl)

end Sys2Proof.Machine
end

section
/-! SUPPORT. The scrub of a window page by page: the grant, and the release with what is asked for after it
(R89).
-/

namespace Sys2Proof.Machine

variable {s : State} {r : RetireRecord}

theorem unchangedBut_retireState (s : State) (x : RetireState) :
    UnchangedBut (· = .retireState) s { s with retire.state := x } := by
  intro y hy
  cases y
  case retireState => exact absurd rfl hy
  case reserves => exact ⟨rfl, rfl⟩
  all_goals exact rfl

theorem unchangedBut_setPage (s : State) (p : Nat) (x : PageState) :
    UnchangedBut (· = .page p) s (s.setPage p x) := by
  intro y hy
  cases y
  case page q =>
    have hne : q ≠ p := fun e => hy (by rw [e])
    exact (s.page_setPage p q x).trans (if_neg hne)
  case reserves => exact ⟨rfl, rfl⟩
  all_goals exact rfl

/-! ### The grant -/

/-- The scrub that the arbiter grants next takes place (R89 step 2). -/
theorem exec_pageScrubGrant (hs : s.retire.state = .scrubbing r .requested)
    (hg : s.nextGrant = some .retireEngine) (hp : r.page < 2048) :
    exec .pageScrubGrant s = .next { s.beginGrant .retireEngine [] with
      xm := s.xm.scrubPage r.page, retire.state := .scrubbing r .scrubbed } := by
  have hgranted : s.granted .retireEngine = true := decide_eq_true hg
  have hpage : r.page < Config.pageTotal := hp
  change execPageScrubGrant s = _
  simp only [execPageScrubGrant, hs, if_pos hgranted, if_pos hpage]

theorem unchangedBut_pageScrubbed (s : State) (r : RetireRecord) :
    UnchangedBut (fun x => x.inMemory ∨ x = .retireState ∨ x = .lastGranted) s
      { s.beginGrant .retireEngine [] with
        xm := s.xm.scrubPage r.page, retire.state := .scrubbing r .scrubbed } :=
  ((unchangedBut_beginGrant s .retireEngine []).trans (unchangedBut_memory _ (s.xm.scrubPage r.page))
    (fun _ => id) fun _ => .inl).trans (unchangedBut_retireState _ (.scrubbing r .scrubbed))
    (fun _ h => h.imp_right .inr) fun _ h => .inr (.inl h)

/-! ### The release -/

/-- The page of the scrub position released: it is FREE, and the owner's page charge is lower by 1
(R89 step 3). -/
def State.releasePage (s : State) (r : RetireRecord) : State :=
  (s.setPage r.page .free).setCounter r.owner
    ⟨(s.counter r.owner).windows, (s.counter r.owner).pages - 1⟩

theorem page_releasePage_same (s : State) (r : RetireRecord) : (s.releasePage r).page r.page = .free :=
  (s.page_setPage r.page r.page .free).trans (if_pos rfl)

theorem counter_releasePage_same (s : State) (r : RetireRecord) : (s.releasePage r).counter r.owner
    = ⟨(s.counter r.owner).windows, (s.counter r.owner).pages - 1⟩ :=
  (State.counter_setCounter ..).trans (if_pos rfl)

theorem unchangedBut_releasePage (s : State) (r : RetireRecord) :
    UnchangedBut (fun x => x = .page r.page ∨ x = .counter r.owner) s (s.releasePage r) :=
  (unchangedBut_setPage s r.page .free).trans (unchangedBut_setCounter _ r.owner _) (fun _ => .inl)
    fun _ => .inr

theorem page_requestScrub (s : State) (r : RetireRecord) (p : Nat) :
    (s.requestScrub r).page p = if p = r.page then .scrubbing else s.page p :=
  s.page_setPage r.page p .scrubbing

/-- The position after a page of a bank, as the manual lists it (R89). -/
theorem nextScrub_eq {w : Window} {n : BankNo} {b : Bank} (hb : w.bank? n = some b) (page : Nat) :
    w.nextScrub n page
      = if page + 1 < b.firstPage + b.pageCount then some (n, page + 1)
        else if n = .zero then w.bank1.map fun b1 => (.one, b1.firstPage) else none := by
  simp only [Window.nextScrub, hb]
  cases n <;> rfl

theorem exec_pageRelease_next {w : Window} {n : BankNo} {p : Nat}
    (hs : s.retire.state = .scrubbing r .scrubbed) (hw : s.window? r.window = some w)
    (hn : w.nextScrub r.bank r.page = some (n, p)) :
    exec .pageRelease s = .next ((s.releasePage r).requestScrub { r with bank := n, page := p }) := by
  change execPageRelease s = _
  simp only [execPageRelease, hs, hw, Option.bind_some, hn]
  rfl

theorem exec_pageRelease_last {w : Window} (hs : s.retire.state = .scrubbing r .scrubbed)
    (hw : s.window? r.window = some w) (hn : w.nextScrub r.bank r.page = none) :
    exec .pageRelease s = .next { s.releasePage r with retire.state := .freeing r } := by
  change execPageRelease s = _
  simp only [execPageRelease, hs, hw, Option.bind_some, hn]
  rfl

/-- Settles O46: the grant scrubs the page, and the release goes on at the position after it or, where there
is none, to the freeing. -/
theorem pagesScrubbedInOrder : Obligations.PagesScrubbedInOrder := by
  refine ⟨fun s r hs hg hp => ?_, fun s r w b next hs hw hb hnext => ?_⟩
  · exact ⟨_, exec_pageScrubGrant hs hg hp, s.xm.scrubbed_scrubPage r.page, rfl, rfl,
      unchangedBut_pageScrubbed s r⟩
  have hn : w.nextScrub r.bank r.page = next := (nextScrub_eq hb r.page).trans hnext.symm
  have hkeeps := unchangedBut_releasePage s r
  have hcounter := counter_releasePage_same s r
  have hfree := page_releasePage_same s r
  rcases next with _ | ⟨n, p⟩
  · refine ⟨_, exec_pageRelease_last hs hw hn, hcounter, fun _ => ⟨hfree, rfl, ?_⟩, fun _ _ => nofun⟩
    exact hkeeps.trans (unchangedBut_retireState _ _) (fun _ h => h.imp_right .inl) fun _ h =>
      .inr (.inr h)
  · refine ⟨_, exec_pageRelease_next hs hw hn, hcounter, nofun, fun _ _ e => ?_⟩
    cases e
    refine ⟨(page_requestScrub ..).trans (if_pos rfl), fun hne => ?_, rfl, ?_⟩
    · exact ((page_requestScrub ..).trans (if_neg hne.symm)).trans hfree
    · refine hkeeps.trans (unchangedBut_requestScrub _ _) ?_ fun _ h => .inr (h.imp_right .inr)
      exact fun _ h => h.imp_right fun h => .inr (.inl h)

end Sys2Proof.Machine
end

section
/-! SUPPORT. The freeing of a window, and the close of an app slot that it completes (R90, R91, R140).
-/

namespace Sys2Proof.Machine

variable {s : State} {r : RetireRecord}

/-! ### The entry -/

theorem unchangedBut_removeWindow (s : State) (k : Nat) :
    UnchangedBut (· = .window k) s { s with dir.windows := Table.remove s.dir.windows k } := by
  intro x hx
  cases x
  case window j =>
    have hne : j ≠ k := fun e => hx (by rw [e])
    exact (Table.at?_remove s.dir.windows k j).trans (if_neg hne)
  case reserves => exact ⟨rfl, rfl⟩
  all_goals exact rfl

theorem window?_freeEntry_same (s : State) (r : RetireRecord) :
    (s.freeEntry r).window? r.window = none :=
  (Table.at?_remove s.dir.windows r.window r.window).trans (if_pos rfl)

theorem counter_freeEntry_same (s : State) (r : RetireRecord) : (s.freeEntry r).counter r.owner
    = ⟨(s.counter r.owner).windows - 1, (s.counter r.owner).pages⟩ :=
  (State.counter_setCounter ..).trans (if_pos rfl)

theorem unchangedBut_freeEntry (s : State) (r : RetireRecord) :
    UnchangedBut (fun x => x = .window r.window ∨ x = .counter r.owner) s (s.freeEntry r) :=
  (unchangedBut_removeWindow s r.window).trans (unchangedBut_setCounter _ r.owner _) (fun _ => .inl)
    fun _ => .inr

/-- With its entry freed a window is not among those that its owner owns (R91). -/
theorem ownsWindow_freeEntry (s : State) (r : RetireRecord) (h : Holder) :
    (s.freeEntry r).ownsWindow h
      = s.dir.windows.any fun e => decide (e.1 ≠ r.window ∧ e.2.owner = h) := by
  change (s.dir.windows.filter fun e => e.1 != r.window).any (fun e => decide (e.2.owner = h)) = _
  rw [List.any_filter]
  congr 1
  funext e
  simp [bne, beq_eq_decide]

/-! ### The close of the slot -/

theorem unchangedBut_setSlot (s : State) (n : Nat) (x : SlotState) :
    UnchangedBut (· = .slot n) s (s.setSlot n x) := by
  intro y hy
  cases y
  case slot m =>
    have hne : m ≠ n := fun e => hy (by rw [e])
    exact (s.slot_setSlot n m x).trans (if_neg hne)
  case reserves => exact ⟨rfl, rfl⟩
  all_goals exact rfl

theorem slot_completeClose_same (s : State) (n : Nat) : (s.completeClose n).slot n = .closed :=
  (s.slot_setSlot n n .closed).trans (if_pos rfl)

theorem unchangedBut_completeClose (s : State) (n : Nat) :
    UnchangedBut (fun x => x.isNotice ∨ x = .slot n) s (s.completeClose n) :=
  (unchangedBut_setSlot s n .closed).trans (unchangedBut_postAll _ [Notice.slotClosed n])
    (fun _ => .inr) fun _ => .inl

/-- The slot whose close is completed where its holder owns no window (R91). -/
def State.closesSlot (s : State) : Holder → Option Nat
  | .payment => none
  | .radio => none
  | .app slot =>
    if s.slot slot.val = .closing ∧ s.ownsWindow (.app slot) = false then some slot.val else none

theorem closeIfLast_eq (s : State) (h : Holder) :
    s.closeIfLast h = (s.closesSlot h).elim s s.completeClose := by
  cases h with
  | payment => rfl
  | radio => rfl
  | app slot =>
    simp only [State.closeIfLast, State.closesSlot]
    split <;> rfl

/-! ### The freeing -/

/-- The entry of the window freed and its owner told, before any close is completed (R90). -/
def State.freed (s : State) (r : RetireRecord) : State := (s.freeEntry r).post (Notice.retireDone r)

theorem unchangedBut_freed (s : State) (r : RetireRecord) :
    UnchangedBut (fun x => x.isNotice ∨ x = .window r.window ∨ x = .counter r.owner) s (s.freed r) :=
  (unchangedBut_freeEntry s r).trans (unchangedBut_postAll _ [Notice.retireDone r]) (fun _ => .inr)
    fun _ => .inl

theorem exec_windowFreeing (hs : s.retire.state = .freeing r) :
    exec .windowFreeing s = .next { ((s.freed r).closesSlot r.owner).elim (s.freed r)
      (s.freed r).completeClose with retire.state := .idle } := by
  change execWindowFreeing s = _
  rw [← closeIfLast_eq]
  simp only [execWindowFreeing, hs]
  rfl

/-- The slot whose close the freeing completes, as the manual says which (R91). -/
theorem closesSlot_freed (s : State) (r : RetireRecord) :
    (s.freed r).closesSlot r.owner = (match r.owner with
      | .app slot =>
        if s.slot slot.val = .closing
            ∧ (s.dir.windows.any fun e => decide (e.1 ≠ r.window ∧ e.2.owner = r.owner)) = false
        then some slot.val else none
      | .payment => none
      | .radio => none) := by
  have howns : (s.freed r).ownsWindow r.owner = _ := ownsWindow_freeEntry s r r.owner
  have hslot (n : Nat) : (s.freed r).slot n = s.slot n := rfl
  rw [← howns]
  rcases h : r.owner with _ | _ | slot
  · rfl
  · rfl
  · simp only [State.closesSlot, hslot]

/-- Settles O47: the entry is freed and its owner told, and where a slot's close is completed that follows. -/
theorem freeingEndsRetirement : Obligations.FreeingEndsRetirement := by
  intro s r last hs hlast
  have hexec := exec_windowFreeing hs
  rw [(closesSlot_freed s r).trans hlast.symm] at hexec
  have hwindow := window?_freeEntry_same s r
  have hcounter := counter_freeEntry_same s r
  have hkeeps := unchangedBut_freed s r
  rcases last with _ | n
  · refine ⟨_, hexec, hwindow, hcounter, rfl, nofun, fun _ => ⟨rfl, rfl⟩, ?_⟩
    refine hkeeps.trans (unchangedBut_retireState _ .idle) ?_ fun _ h => ?_
    · exact fun _ h => h.imp_right fun h => h.imp_right .inl
    · exact .inr (.inr (.inr (.inl h)))
  · refine ⟨_, hexec, hwindow, hcounter, rfl, ?_, fun _ => ⟨rfl, rfl⟩, ?_⟩
    · rintro _ ⟨⟩
      exact slot_completeClose_same (s.freed r) n
    · refine (hkeeps.trans (unchangedBut_completeClose _ n) (r := fun x => x.isNotice
        ∨ x = .window r.window ∨ x = .counter r.owner ∨ x = .slot n) ?_ ?_).trans
        (unchangedBut_retireState _ .idle) ?_ ?_
      · exact fun _ h => h.imp_right fun h => h.imp_right .inl
      · exact fun _ h => h.imp_right fun h => .inr (.inr h)
      · exact fun _ h => h.imp_right fun h => h.imp_right fun h => h.imp_right fun h =>
          .inr ⟨n, rfl, h⟩
      · exact fun _ h => .inr (.inr (.inr (.inl h)))

end Sys2Proof.Machine
end

section
/-! SUPPORT. What most commands and events leave of the data (`Steady`): exchange memory and the tables in
their canonical form, the quota counters, the owner of each window, and the arbiter with the requests that
wait at it.
-/

namespace Sys2Proof.Machine

variable {s t u : State}

/-! ### What most commands and events leave -/

/-- The window that the Retire Engine clears, with its owner (R86, R87). -/
def RetireState.holding (x : RetireState) : Option (Nat × Holder) :=
  x.record.map fun r => (r.window, r.owner)

/-- Memory and the tables keep their canonical form; the counters, the phase, the quotas, the owner of each
window and what the Retire Engine holds are as they were. -/
structure KeepsData (s t : State) : Prop where
  memory : MemoryCanonical s → MemoryCanonical t
  tables : TablesCanonical s → TablesCanonical t
  counters : t.alloc.counters = s.alloc.counters
  phase : t.policy.phase = s.policy.phase
  quota : ∀ h, t.policy.quota h = s.policy.quota h
  owner : ∀ k, (t.window? k).map Window.owner = (s.window? k).map Window.owner
  holding : t.retire.state.holding = s.retire.state.holding

/-- Nothing is granted either, and what waits at the arbiter waits still (R113). -/
structure Steady (s t : State) : Prop extends KeepsData s t where
  lastGranted : t.lastGranted = s.lastGranted
  requests : ∀ r, s.requests r = true → t.requests r = true

theorem KeepsData.trans (h : KeepsData s t) (g : KeepsData t u) : KeepsData s u where
  memory := g.memory ∘ h.memory
  tables := g.tables ∘ h.tables
  counters := g.counters.trans h.counters
  phase := g.phase.trans h.phase
  quota a := (g.quota a).trans (h.quota a)
  owner k := (g.owner k).trans (h.owner k)
  holding := g.holding.trans h.holding

theorem Steady.refl (s : State) : Steady s s :=
  ⟨⟨id, id, rfl, rfl, fun _ => rfl, fun _ => rfl, rfl⟩, rfl, fun _ => id⟩

theorem Steady.trans (h : Steady s t) (g : Steady t u) : Steady s u where
  toKeepsData := h.toKeepsData.trans g.toKeepsData
  lastGranted := g.lastGranted.trans h.lastGranted
  requests r := g.requests r ∘ h.requests r

/-- What changes none of the windows' owners, the policy, the Retire Engine, memory and the counters keeps
the data where it keeps the tables canonical. -/
theorem KeepsData.of_tables (h : TablesCanonical s → TablesCanonical t) (hx : t.xm = s.xm)
    (hc : t.alloc.counters = s.alloc.counters) (hp : t.policy = s.policy)
    (ho : ∀ k, (t.window? k).map Window.owner = (s.window? k).map Window.owner)
    (hr : t.retire.state.holding = s.retire.state.holding) : KeepsData s t where
  memory := by unfold MemoryCanonical; rw [hx]; exact id
  tables := h
  counters := hc
  phase := by rw [hp]
  quota _ := by rw [hp]
  owner := ho
  holding := hr

/-! ### One part written -/

/-- A port may be written where its staging buffer stays canonical. -/
theorem keepsData_setPort (s : State) (i : PortId) (y : Port)
    (hy : Table.wf 0#8 (s.port i).staging = true → Table.wf 0#8 y.staging = true) :
    KeepsData s (s.setPort i y) := by
  refine .of_tables (fun h => ?_) rfl rfl rfl (fun _ => rfl) rfl
  obtain ⟨h1, h2, h3, h4, h5, h6, h7, h8, h9⟩ := h
  refine ⟨h1, h2, h3, h4, h5, h6, h7, h8, fun j => ?_⟩
  rw [State.port_setPort]
  split
  · exact hy (h9 i)
  · exact h9 j

/-- A port is written, which waits at the arbiter if it did before. -/
theorem Steady.setPort (h : Steady s u) {i : PortId} {y : Port}
    (hy : Table.wf 0#8 (u.port i).staging = true → Table.wf 0#8 y.staging = true)
    (hreq : (s.port i).requests = true → y.requests = true) : Steady s (u.setPort i y) where
  toKeepsData := h.toKeepsData.trans (keepsData_setPort u i y hy)
  lastGranted := h.lastGranted
  requests r hr := by
    cases r with
    | port j =>
      change ((u.setPort i y).port j).requests = true
      rw [State.port_setPort]
      split
      · rename_i e
        exact hreq (e ▸ hr)
      · exact h.requests (.port j) hr
    | moveEngine => exact h.requests .moveEngine hr
    | retireEngine => exact h.requests .retireEngine hr

theorem steady_setPort (s : State) (i : PortId) (y : Port)
    (hy : Table.wf 0#8 (s.port i).staging = true → Table.wf 0#8 y.staging = true)
    (hreq : (s.port i).requests = true → y.requests = true) : Steady s (s.setPort i y) :=
  (Steady.refl s).setPort hy hreq

theorem Steady.answer (h : Steady s t) (i : PortId) (code : ResultCode) (detail : List Byte) :
    Steady s (t.answer i code detail) := h.trans (steady_setPort t i _ id id)

theorem steady_answer (s : State) (i : PortId) (code : ResultCode) (detail : List Byte) :
    Steady s (s.answer i code detail) := (Steady.refl s).answer ..

theorem Steady.reply (h : Steady s t) (i : PortId) (code : ResultCode) : Steady s (t.reply i code) :=
  h.answer i code []

theorem Steady.postAll (h : Steady s t) (ns : List Notice) : Steady s (t.postAll ns) := by
  refine h.trans ⟨.of_tables (fun ht => ?_) rfl rfl rfl (fun _ => rfl) rfl, rfl, fun r hr => ?_⟩
  · obtain ⟨h1, h2, h3, h4, h5, h6, h7, h8, h9⟩ := ht
    exact ⟨h1, h2, h3, h4, h5, h6, h7, h8, fun i => by
      rw [State.port_postAll_staging]
      exact h9 i⟩
  · cases r with
    | port i =>
      simp only [State.requests, Port.requests, State.port_postAll_transfer,
        State.port_postAll_completion]
      exact hr
    | moveEngine => exact hr
    | retireEngine => exact hr

theorem Steady.post (h : Steady s t) (n : Notice) : Steady s (t.post n) := h.postAll [n]

/-- A window may be written where its owner stays. -/
theorem steady_putWindow {k : Nat} {w w' : Window} (hw : s.window? k = some w)
    (ho : w'.owner = w.owner) : Steady s (s.putWindow k w') where
  memory := id
  tables := fun ⟨h1, hrest⟩ => ⟨Table.rising_put _ _ _ h1, hrest⟩
  counters := rfl
  phase := rfl
  quota _ := rfl
  owner j := by
    rw [State.window?_putWindow]
    split
    · rename_i e
      rw [← e, hw]
      exact congrArg some ho
    · rfl
  holding := rfl
  lastGranted := rfl
  requests _ := id

theorem steady_retireQueue (s : State) (queue : List Nat) :
    Steady s { s with retire.queue := queue } := by
  have h := Steady.refl s
  exact ⟨⟨id, id, rfl, rfl, fun _ => rfl, fun _ => rfl, rfl⟩, rfl, h.requests⟩

theorem steady_putQueued {k : Nat} {w w' : Window} {joins : Bool} (hw : s.window? k = some w)
    (ho : w'.owner = w.owner) : Steady s (s.putQueued k w' joins) :=
  (steady_putWindow hw ho).trans (steady_retireQueue _ _)

/-- The View Table may be any of rising keys. -/
theorem steady_views (s : State) {views : Table View}
    (hv : Table.rising s.dir.views = true → Table.rising views = true) :
    Steady s { s with dir.views := views } where
  memory := id
  tables := fun ⟨h1, h2, hrest⟩ => ⟨h1, hv h2, hrest⟩
  counters := rfl
  phase := rfl
  quota _ := rfl
  owner _ := rfl
  holding := rfl
  lastGranted := rfl
  requests _ := id

theorem steady_setSlot (s : State) (n : Nat) (x : SlotState) : Steady s (s.setSlot n x) where
  memory := id
  tables := fun ⟨h1, h2, h3, hrest⟩ => ⟨h1, h2, Table.wf_store _ _ _ _ h3, hrest⟩
  counters := rfl
  phase := rfl
  quota _ := rfl
  owner _ := rfl
  holding := rfl
  lastGranted := rfl
  requests _ := id

theorem steady_setPage (s : State) (p : Nat) (x : PageState) : Steady s (s.setPage p x) where
  memory := id
  tables := fun ⟨h1, h2, h3, h4, hrest⟩ => ⟨h1, h2, h3, Table.wf_store _ _ _ _ h4, hrest⟩
  counters := rfl
  phase := rfl
  quota _ := rfl
  owner _ := rfl
  holding := rfl
  lastGranted := rfl
  requests _ := id

theorem steady_events (s : State) {e : EventUnit}
    (he : Table.wf false s.events.levels = true → Table.wf false e.levels = true) :
    Steady s { s with events := e } where
  memory := id
  tables := fun ⟨h1, h2, h3, h4, h5, h6, h7, hrest⟩ => ⟨h1, h2, h3, h4, h5, h6, he h7, hrest⟩
  counters := rfl
  phase := rfl
  quota _ := rfl
  owner _ := rfl
  holding := rfl
  lastGranted := rfl
  requests _ := id

/-- The latch is not of the data. -/
theorem steady_tamper (s : State) (latch : Bool) : Steady s { s with dir.tamper := latch } :=
  ⟨⟨id, id, rfl, rfl, fun _ => rfl, fun _ => rfl, rfl⟩, rfl, fun _ => id⟩

/-- The reserves and the lines of the policy may be written, the lines to a canonical table. -/
theorem steady_policy (s : State) {x : Policy} (hp : x.phase = s.policy.phase)
    (hq : ∀ a, x.quota a = s.policy.quota a)
    (hl : Table.wf LineConfig.initial s.policy.lines = true →
      Table.wf LineConfig.initial x.lines = true) : Steady s { s with policy := x } where
  memory := id
  tables := fun ⟨h1, h2, h3, h4, h5, h6, h7, h8, h9⟩ => ⟨h1, h2, h3, h4, h5, h6, h7, hl h8, h9⟩
  counters := rfl
  phase := hp
  quota := hq
  owner _ := rfl
  holding := rfl
  lastGranted := rfl
  requests _ := id

theorem keepsData_withMove (s : State) {m : MoveEngine}
    (hm : Table.wf 0#8 s.move.pattern = true → Table.wf 0#8 m.pattern = true) :
    KeepsData s { s with move := m } := by
  refine .of_tables (fun h => ?_) rfl rfl rfl (fun _ => rfl) rfl
  obtain ⟨h1, h2, h3, h4, h5, h6, h7⟩ := h
  exact ⟨h1, h2, h3, h4, h5, hm h6, h7⟩

/-- The Move Engine is written, which waits at the arbiter if it did before. -/
theorem Steady.withMove (h : Steady s u) {m : MoveEngine}
    (hm : Table.wf 0#8 u.move.pattern = true → Table.wf 0#8 m.pattern = true)
    (hreq : s.move.requests = true → m.requests = true) : Steady s { u with move := m } where
  toKeepsData := h.toKeepsData.trans (keepsData_withMove u hm)
  lastGranted := h.lastGranted
  requests r hr := by
    cases r with
    | port i => exact h.requests (.port i) hr
    | moveEngine => exact hreq hr
    | retireEngine => exact h.requests .retireEngine hr

theorem keepsData_withRetireState (s : State) {x : RetireState}
    (hx : x.holding = s.retire.state.holding) : KeepsData s { s with retire.state := x } :=
  .of_tables id rfl rfl rfl (fun _ => rfl) hx

/-- The Retire Engine goes to another state, in which it waits at the arbiter if it did before. -/
theorem Steady.withRetireState (h : Steady s u) {x : RetireState}
    (hx : x.holding = u.retire.state.holding)
    (hreq : s.retire.requests = true → RetireEngine.requests ⟨[], x, false⟩ = true) :
    Steady s { u with retire.state := x } where
  toKeepsData := h.toKeepsData.trans (keepsData_withRetireState u hx)
  lastGranted := h.lastGranted
  requests r hr := by
    cases r with
    | port i => exact h.requests (.port i) hr
    | moveEngine => exact h.requests .moveEngine hr
    | retireEngine => exact hreq hr

theorem steady_foldl {α : Type} (f : State → α → State) (hf : ∀ (s : State) a, Steady s (f s a))
    (l : List α) (s : State) : Steady s (l.foldl f s) := by
  induction l generalizing s with
  | nil => exact .refl s
  | cons a l ih => exact (hf s a).trans (ih _)

/-! ### The shared operations of the Directory -/

theorem steady_beginRetirement (s : State) (k : Nat) (cause : RetireCause) :
    Steady s (s.beginRetirement k cause) := by
  rcases hw : s.window? k with _ | w
  · rw [State.beginRetirement_eq, hw]
    exact .refl s
  · by_cases hl : w.isLive = true
    · rw [State.beginRetirement_live cause hw hl]
      exact steady_putQueued hw rfl
    · simp only [State.beginRetirement_eq, hw, hl]
      exact .refl s

theorem steady_retireAll (s : State) (cause : RetireCause) (ks : List Nat) :
    Steady s (s.retireAll cause ks) :=
  steady_foldl _ (fun t k => steady_beginRetirement t k cause) ks s

theorem steady_requestExchange {k : Nat} {w : Window} (source : SwapSource)
    (hw : s.window? k = some w) : Steady s (s.requestExchange k w source) := by
  unfold State.requestExchange
  split
  · refine (steady_putWindow hw ?_).postAll _
    rfl
  · split
    · exact .refl s
    · exact steady_putWindow hw rfl

theorem steady_lineAction (s : State) (line k : Nat) : Steady s (s.lineAction line k) := by
  unfold State.lineAction
  split
  · exact .refl s
  · split
    · split
      · exact steady_beginRetirement s k .line
      · exact steady_requestExchange .line ‹_›
      · exact .refl s
    · exact .refl s

theorem steady_tickWindow (s : State) (k : Nat) : Steady s (s.tickWindow k) := by
  unfold State.tickWindow
  split
  · exact .refl s
  · rename_i w hw
    split
    · split
      · exact .refl s
      · split
        · refine (steady_putWindow hw ?_).trans (steady_beginRetirement ..)
          rfl
        · exact steady_putWindow hw rfl
    · exact .refl s

theorem steady_takeTick (s : State) : Steady s s.takeTick := by
  have h : Steady s { s with events.ticks := s.events.ticks - 1 } := steady_events s id
  exact h.trans (steady_foldl _ steady_tickWindow _ _)

theorem steady_quietPoint (s : State) (k : Nat) : Steady s (s.quietPoint k) := by
  rcases hw : s.window? k with _ | w
  · rw [State.quietPoint_eq, hw]
    exact .refl s
  · obtain ⟨ns, h | h⟩ := State.quietPoint_eq_putQueued hw
    · rw [h]
      exact (steady_putQueued hw w.outlives_settled.owner).postAll ns
    · rw [h]
      exact .refl s

theorem steady_setDamaged (s : State) (k : Nat) : Steady s (s.setDamaged k) := by
  rw [State.setDamaged_eq]
  split
  · exact .refl s
  · rename_i w hw
    split
    · exact .refl s
    · refine (steady_putWindow hw ?_).postAll _
      rfl

theorem steady_lowerInFlight (s : State) (k : Nat) : Steady s (s.lowerInFlight k) := by
  unfold State.lowerInFlight
  split
  · exact .refl s
  · rename_i w hw
    exact steady_putWindow hw rfl

theorem steady_lowerTransfer (s : State) (x : Transfer) (c : Completion) :
    Steady s (s.lowerTransfer x c) := by
  unfold State.lowerTransfer
  split
  · exact (steady_lowerInFlight ..).trans (steady_setDamaged ..)
  · exact steady_lowerInFlight ..

theorem steady_releasePin (s : State) (k : Nat) : Steady s (s.releasePin k) := by
  unfold State.releasePin
  split
  · exact .refl s
  · rename_i w hw
    exact steady_putWindow hw rfl

theorem steady_pin (s : State) (k : Nat) : Steady s (s.pin k) := by
  unfold State.pin
  split
  · exact .refl s
  · rename_i w hw
    exact steady_putWindow hw rfl

/-! ### Ports and transfers -/

theorem steady_actReset (s : State) (i : PortId) : Steady s (s.actReset i) := by
  have h := steady_setPort s i
    { s.port i with notices := [], lost := false, last := LastResult.initial, state := .idle } id id
  exact h.withMove id id

theorem steady_acceptTransfer {kind : TransferKind} {i : PortId} {a : TransferParams}
    {x : Transfer × Window} (h : checkAdmission kind i a s = .ok x) :
    Steady s (s.acceptTransfer i x.1 x.2) := by
  have hw : Steady s (s.putWindow x.1.window { x.2 with inFlight := x.2.inFlight + 1 }) :=
    steady_putWindow (checkAdmission_ok h).1 rfl
  refine (hw.setPort ?_ ?_).reply i .accepted
  · exact id
  · exact fun _ => rfl

/-- A port that has sent its completion does not wait at the arbiter, so that it may be freed (R51, R55). -/
theorem steady_complete {i : PortId} {c : Completion} (hc : (s.port i).completion = some c)
    (x : Transfer) : Steady s (s.complete i x c) := by
  have hnot : (s.port i).requests = false := by simp [Port.requests, hc]
  have hfree : Steady s
      (((s.lowerTransfer x c).quietPoint x.window).freePort i (completionResult x c)) := by
    refine ((steady_lowerTransfer s x c).trans (steady_quietPoint _ x.window)).setPort id fun h => ?_
    exact absurd (hnot.symm.trans h) Bool.false_ne_true
  rw [State.complete_eq]
  split
  · exact hfree.trans (steady_actReset ..)
  · exact hfree

/-! ### The start and the end of a move -/

theorem steady_releaseMove (s : State) (x : Resolved) : Steady s (s.releaseMove x) := by
  rw [State.releaseMove_eq]
  exact ((steady_releasePin s _).trans (steady_releasePin _ _)).trans
    (steady_foldl _ steady_quietPoint _ _)

/-- An engine that does not wait at the arbiter may end its move (R127). -/
theorem steady_endMove (hs : s.move.requests = false) (r : MoveRequest) (code : ResultCode)
    (dataError : Bool) : Steady s (s.endMove r code dataError) := by
  have hidle : s.move.requests = true → ∀ {m : MoveEngine}, m.requests = true :=
    fun h => absurd (hs.symm.trans h) Bool.false_ne_true
  have hpost (u : State) (hu : Steady s u) (n : Notice) (b : Bool) (queue : List MoveRequest) : Steady s
      { (if b then u else u.post n) with
        move.queue := queue, move.state := .idle, move.corrected := 0 } := by
    cases b
    · exact (hu.post n).withMove id fun h => hidle h
    · exact hu.withMove id fun h => hidle h
  unfold State.endMove
  rcases r.resolved with _ | x
  · exact hpost s (.refl s) _ _ _
  · have hd : Steady s (if dataError then s.setDamaged x.srcWindow else s) := by
      split
      · exact steady_setDamaged ..
      · exact .refl s
    exact hpost _ (hd.trans (steady_releaseMove _ x)) _ _ _

theorem steady_startMove (hs : s.move.requests = false) (r : MoveRequest) (x : Resolved) :
    Steady s (s.startMove r x) := by
  have hhead : Steady s (s.setMoveHead { r with resolved := some x }) := (Steady.refl s).withMove id id
  have hpins := (hhead.trans (steady_pin _ x.srcWindow)).trans (steady_pin _ x.dstWindow)
  exact hpins.withMove id fun h => absurd (hs.symm.trans h) Bool.false_ne_true

/-! ### Views and slots -/

/-- The views are written with rising keys, and their holders told. -/
theorem steady_withViews (s : State) {views : Table View}
    (hv : Table.rising s.dir.views = true → Table.rising views = true) (ns : List Notice) :
    Steady s (({ s with dir.views := views } : State).postAll ns) := (steady_views s hv).postAll ns

theorem steady_voidKeys (s : State) (ks : List Nat) (ns : List Notice) :
    Steady s (({ s with dir.views := voidKeys s.dir.views ks } : State).postAll ns) :=
  steady_withViews s (Table.rising_filter _ _) ns

theorem steady_completeClose (s : State) (slot : Nat) : Steady s (s.completeClose slot) :=
  (steady_setSlot s slot .closed).post _

theorem steady_closeIfLast (s : State) (h : Holder) : Steady s (s.closeIfLast h) := by
  unfold State.closeIfLast
  split
  · exact .refl s
  · exact .refl s
  · split
    · exact steady_completeClose ..
    · exact .refl s

theorem steady_closeView (s : State) (h : Holder) (selector : Nat) :
    Steady s (s.closeView h selector) := by
  unfold State.closeView
  split
  · exact .refl s
  · exact steady_voidKeys ..

theorem steady_closeMoves (s : State) (h : Holder) : Steady s (s.closeMoves h) := by
  refine Steady.postAll ((Steady.refl s).withMove ?_ ?_) _
  · exact id
  · exact id

theorem steady_closeState (s : State) (slot : Nat) (h : Holder) : Steady s (s.closeState slot h) := by
  unfold State.closeState
  split
  · exact steady_setSlot ..
  · exact steady_completeClose ..

theorem steady_teardown (s : State) (slot : Nat) : Steady s (s.teardown slot) :=
  (((steady_foldl _ (fun t n => steady_closeView t _ n) _ s).trans (steady_retireAll ..)).trans
    (steady_closeMoves ..)).trans (steady_closeState ..)

end Sys2Proof.Machine
end

section
/-! SUPPORT. What a command or an event can do to the data, in one list (`DataEffect`, `exec_dataEffect`):
most leave it steady; the rest are the grants of the arbiter, and the few that write a quota counter, the
owner of a window, the quotas or the phase.
-/

namespace Sys2Proof.Machine

variable {s t u : State}

/-! ### The effects on the data -/

/-- What a command or an event makes of the data. -/
inductive DataEffect (c : Instr) (s : State) : State → Prop
  /-- Nothing that counts. -/
  | steady {t : State} (h : Steady s t) : DataEffect c s t
  /-- The arbiter's next grant is taken (R113). -/
  | granted {t : State} (r : Requester) (hn : s.nextGrant = some r) (hc : r.grantedBy c)
      (h : KeepsData s t) (hl : t.lastGranted = r)
      (hr : ∀ q, q ≠ r → s.requests q = true → t.requests q = true) : DataEffect c s t
  /-- The first request of the start-up is granted where it is made (R170). -/
  | firstScrubbed {t : State} (page : Nat) (hc : c = .startupScrubGrant)
      (hs : s.retire.state = .startUp page .toRequest) (h : KeepsData s t)
      (hl : t.lastGranted = .retireEngine) (hr : ∀ q, s.requests q = true → t.requests q = true) :
      DataEffect c s t
  /-- OPEN WINDOW (R15, R16). -/
  | opened {t : State} (i : PortId) (a : OpenParams) (x : OpenTicket)
      (hx : checkOpenWindow i a s = .ok x) (h : Steady (s.openWindow x) t) : DataEffect c s t
  /-- The page charge of a holder falls (R89). -/
  | discharged {t : State} (a : Holder) (n : Nat) (hn : n ≤ (s.counter a).pages)
      (h : Steady (s.setCounter a ⟨(s.counter a).windows, n⟩) t) : DataEffect c s t
  /-- The Retire Engine takes a window (R87). -/
  | taken {t : State} (k : Nat) (w : Window) (cause : RetireCause) (hs : s.retire.state = .idle)
      (hw : s.window? k = some w)
      (h : Steady { s with retire.state := .sweeping (w.retireRecord k cause) } t) : DataEffect c s t
  /-- The freeing (R90). -/
  | freed {t : State} (r : RetireRecord) (hs : s.retire.state = .freeing r)
      (h : Steady { s.freeEntry r with retire.state := .idle } t) : DataEffect c s t
  /-- SET QUOTA (R172). -/
  | quotaSet {t : State} (x : Policy) (hr : s.policy.phase ≠ .running)
      (hp : x.phase = s.policy.phase) (hl : x.lines = s.policy.lines)
      (h : Steady { s with policy := x } t) : DataEffect c s t
  /-- LOCK POLICY (R173). -/
  | locked {t : State} (h : Steady { s with policy.phase := .running } t) : DataEffect c s t
  /-- The end of the start-up scrub is taken (R170). -/
  | scrubEnded {t : State} (he : s.retire.endReport = true)
      (h : Steady { s with policy.phase := .configuring } t) : DataEffect c s t
  /-- The device reset (R169). -/
  | reset (levels : BitVec 8) (flips : List BitFlip) (pending : List Instr)
      (hc : c = .deviceReset levels flips) :
      DataEffect c s { State.reset with
        pending := pending, xm := s.xm.disturb flips, events := ⟨levelsOf levels, [], 0, 0⟩ }

theorem DataEffect.refl (c : Instr) (s : State) : DataEffect c s s := .steady (.refl s)

/-! ### The frame of a command -/

variable {c : Instr}

theorem dataEffect_onPort {i : PortId} {during always : Bool} {act : State} (h : DataEffect c s act) :
    DataEffect c s (s.onPort i during always act) := by
  unfold State.onPort
  split
  · exact .steady (steady_answer ..)
  · exact h

theorem dataEffect_checked {α : Type} {i : PortId} {checks : Except ResultCode α} {act : α → State}
    (h : ∀ a, checks = .ok a → DataEffect c s (act a)) : DataEffect c s (s.checked i checks act) := by
  rcases hc : checks with code | a
  · exact .steady (steady_answer ..)
  · exact h a hc

theorem dataEffect_command {α : Type} {i : PortId} {checks : Except ResultCode α} {act : α → State}
    (h : ∀ a, checks = .ok a → DataEffect c s (act a)) :
    DataEffect c s (s.onIdle i (s.checked i checks act)) := dataEffect_onPort (dataEffect_checked h)

theorem dataEffect_onAPort {i : PortId} {act : State} (h : DataEffect c s act) :
    DataEffect c s (s.onAPort i act) := by
  cases i
  · exact .steady (steady_answer ..)
  · exact .steady (steady_answer ..)
  · exact dataEffect_onPort h

/-! ### Checks -/

/-- SET QUOTA is taken before the policy is locked, and leaves the phase and the lines (R171, R172). -/
theorem checkSetQuota_unlocked {i : PortId} {cls windows : Byte} {pages : BitVec 16} {x : Policy}
    (h : checkSetQuota i cls windows pages s = .ok x) :
    s.policy.phase ≠ .running ∧ x.phase = s.policy.phase ∧ x.lines = s.policy.lines := by
  simp only [checkSetQuota, checkPolicy, Checks.bind_eq_ok, found_eq_ok, require_eq_ok] at h
  obtain ⟨-, ⟨-, -, hlock⟩, -, -, hx⟩ := h
  refine ⟨by simpa using hlock, ?_⟩
  unfold Policy.setQuota? at hx
  split_ifs at hx <;> cases hx <;> exact ⟨rfl, rfl⟩

/-! ### Grants -/

theorem nextGrant_of_granted {r : Requester} (h : s.granted r = true) : s.nextGrant = some r :=
  of_decide_eq_true h

/-- The memory written in its canonical form, and the arbiter. -/
theorem keepsData_memory (s : State) {m : Memory} (r : Requester)
    (hm : s.xm.wf = true → m.wf = true) : KeepsData s { s with xm := m, lastGranted := r } :=
  ⟨hm, id, rfl, rfl, fun _ => rfl, fun _ => rfl, rfl⟩

theorem keepsData_beginGrant (s : State) (r : Requester) (flips : List BitFlip) :
    KeepsData s (s.beginGrant r flips) := keepsData_memory s r (Memory.disturb_wf flips)

theorem requests_setPort_other (s : State) (i : PortId) (y : Port) {q : Requester}
    (hq : q ≠ .port i) : (s.setPort i y).requests q = s.requests q := by
  cases q with
  | port j =>
    have hj : j ≠ i := fun e => hq (e ▸ rfl)
    simp only [State.requests, State.port_setPort, if_neg hj]
  | moveEngine => rfl
  | retireEngine => rfl

theorem requests_withRetireState_other (s : State) (x : RetireState) {q : Requester}
    (hq : q ≠ .retireEngine) :
    ({ s with retire.state := x } : State).requests q = s.requests q := by
  cases q with
  | port => rfl
  | moveEngine => rfl
  | retireEngine => exact absurd rfl hq

/-- An engine that does not wait may go to another state, and what waits waits still. -/
theorem requests_withRetireState (hs : s.retire.requests = false) (x : RetireState) {q : Requester}
    (hq : s.requests q = true) : ({ s with retire.state := x } : State).requests q = true := by
  refine (requests_withRetireState_other s x fun e => ?_).trans hq
  subst e
  exact absurd (hs.symm.trans hq) Bool.false_ne_true

/-- A range with an address lies in exchange memory (R51, R99). -/
theorem rangeAddress?_inside {k : Nat} {n : BankNo} {offset count a : Nat}
    (h : s.rangeAddress? k n offset count = some a) : a + count ≤ Config.memoryBytes := by
  unfold State.rangeAddress? at h
  split at h
  · cases h
  · simp only at h
    split at h
    · cases h
      assumption
    · cases h

theorem grantedTransfer_granted {i : PortId} {kind : TransferKind} {x : Transfer}
    (h : s.grantedTransfer i kind = some x) : s.nextGrant = some (.port i) := by
  unfold State.grantedTransfer at h
  split at h
  · exact nextGrant_of_granted ‹_›
  · cases h

theorem dataEffect_putGrant {i : PortId} {flips : List BitFlip}
    (h : execPutGrant i flips s = .next t) : DataEffect (.putGrant i flips) s t := by
  unfold execPutGrant at h
  split at h
  · cases h
    exact .refl _ s
  · rename_i x hx
    split at h
    · cases h
    · rename_i address ha
      cases h
      refine .granted (.port i) (grantedTransfer_granted hx) ⟨flips, .inl rfl⟩ ?_ rfl fun q hq hr => ?_
      · refine ((keepsData_beginGrant s (.port i) flips).trans
          (keepsData_setPort _ i _ ?_)).trans (keepsData_memory _ (.port i) fun hm => ?_)
        · exact id
        · refine Memory.writeRange_wf hm ?_
          simpa [Table.readRun] using rangeAddress?_inside ha
      · exact (requests_setPort_other s i _ hq).trans hr

theorem dataEffect_fetchGrant {i : PortId} {flips : List BitFlip}
    (h : execFetchGrant i flips s = .next t) : DataEffect (.fetchGrant i flips) s t := by
  unfold execFetchGrant at h
  split at h
  · cases h
    exact .refl _ s
  · rename_i x hx
    split at h
    · cases h
    · cases h
      refine .granted (.port i) (grantedTransfer_granted hx) ⟨flips, .inr rfl⟩ ?_ rfl fun q hq hr => ?_
      · exact (keepsData_beginGrant s (.port i) flips).trans
          (keepsData_setPort _ i _ (Table.wf_writeRun _ _ _ _))
      · exact (requests_setPort_other s i _ hq).trans hr

theorem grantedMove_granted {x : MoveState} {y : MoveRequest × Resolved}
    (h : s.grantedMove x = some y) : s.nextGrant = some .moveEngine := by
  unfold State.grantedMove at h
  split at h
  · exact nextGrant_of_granted ‹_›
  · cases h

/-- The grant of the Move Engine leaves the ports and the Retire Engine as they wait. -/
theorem dataEffect_moveGranted (hn : s.nextGrant = some .moveEngine)
    (hc : Requester.moveEngine.grantedBy c) (h : KeepsData s t) (hl : t.lastGranted = .moveEngine)
    (hp : t.ports = s.ports) (hr : t.retire = s.retire) : DataEffect c s t := by
  refine .granted .moveEngine hn hc h hl fun q hq hw => ?_
  cases q with
  | port i => simpa only [State.requests, State.port, hp] using hw
  | moveEngine => exact absurd rfl hq
  | retireEngine => simpa only [State.requests, hr] using hw

/-- The Move Engine written within its grant keeps the data. -/
theorem keepsData_moveGranted (s : State) (flips : List BitFlip) {m : MoveEngine}
    (hm : Table.wf 0#8 s.move.pattern = true → Table.wf 0#8 m.pattern = true) :
    KeepsData s { s.beginGrant .moveEngine flips with move := m } :=
  (keepsData_beginGrant s .moveEngine flips).trans (keepsData_withMove _ hm)

theorem dataEffect_fillPatternRead {flips : List BitFlip} (h : execFillPatternRead flips s = .next t) :
    DataEffect (.fillPatternRead flips) s t := by
  unfold execFillPatternRead at h
  split at h
  · cases h
    exact .refl _ s
  · rename_i r x hx
    split at h
    · cases h
    · cases h
      have hc : Requester.moveEngine.grantedBy (.fillPatternRead flips) := ⟨flips, .inl rfl⟩
      simp only [State.performPattern]
      split
      · refine dataEffect_moveGranted (grantedMove_granted hx) hc (keepsData_moveGranted s flips ?_) rfl
          rfl rfl
        exact id
      · refine dataEffect_moveGranted (grantedMove_granted hx) hc (keepsData_moveGranted s flips ?_) rfl
          rfl rfl
        exact Table.wf_writeRun _ _ _ _

theorem dataEffect_writeChunk {flips : List BitFlip} {r : MoveRequest} {k : Nat} {n : BankNo}
    {offset a : Nat} {data : List Byte} {sourceCorrected : Nat} (hn : s.nextGrant = some .moveEngine)
    (hd : data.length = r.chunkLength) (ha : s.rangeAddress? k n offset r.chunkLength = some a) :
    DataEffect (.moveChunkGrant flips) s
      ((s.beginGrant .moveEngine flips).writeChunk r a data sourceCorrected) := by
  have hm : KeepsData s { s with
      xm := (s.xm.disturb flips).writeRange a data, lastGranted := .moveEngine } :=
    keepsData_memory s .moveEngine fun hm =>
      Memory.writeRange_wf (Memory.disturb_wf flips hm) (hd ▸ rangeAddress?_inside ha)
  refine dataEffect_moveGranted hn ⟨flips, .inr rfl⟩ (hm.trans (keepsData_withMove _ ?_)) rfl rfl rfl
  exact id

theorem dataEffect_copyChunk {flips : List BitFlip} {r : MoveRequest} {k : Nat} {n : BankNo}
    {offset src dst : Nat} (hn : s.nextGrant = some .moveEngine)
    (ha : s.rangeAddress? k n offset r.chunkLength = some dst) :
    DataEffect (.moveChunkGrant flips) s
      ((s.beginGrant .moveEngine flips).performCopyChunk r src dst) := by
  simp only [State.performCopyChunk]
  split
  · refine dataEffect_moveGranted hn ⟨flips, .inr rfl⟩ (keepsData_moveGranted s flips ?_) rfl rfl rfl
    exact id
  · exact dataEffect_writeChunk hn (by simp [Memory.readRange]) ha

theorem dataEffect_moveChunkGrant {flips : List BitFlip} (h : execMoveChunkGrant flips s = .next t) :
    DataEffect (.moveChunkGrant flips) s t := by
  unfold execMoveChunkGrant at h
  split at h
  · cases h
    exact .refl _ s
  · rename_i r x hg
    have hn := grantedMove_granted hg
    split at h
    · cases h
    · rename_i dst hdst
      split at h
      · cases h
        exact dataEffect_writeChunk hn (by simp [MoveEngine.patternRun]) hdst
      all_goals
        split at h
        · cases h
        · cases h
          exact dataEffect_copyChunk hn hdst

/-! ### The Move Engine between its grants -/

theorem moveRequests_false {x : MoveState} (hs : s.move.state = x) (h1 : x ≠ .pattern)
    (h2 : x ≠ .chunkGrant) : s.move.requests = false := by
  simp [MoveEngine.requests, hs, h1, h2]

theorem steady_moveTakeHead (h : execMoveTakeHead s = .next t) : Steady s t := by
  unfold execMoveTakeHead at h
  cases h
  split
  · exact .refl s
  · rename_i r hr
    have hnot := moveRequests_false (moveHead_eq_some.1 hr).1 (by simp) (by simp)
    refine (Steady.refl s).withMove ?_ fun h => absurd (hnot.symm.trans h) Bool.false_ne_true
    exact id

theorem steady_startCheck (h : execStartCheck s = .next t) : Steady s t := by
  unfold execStartCheck at h
  cases h
  split
  · exact .refl s
  · rename_i r hr
    have hnot := moveRequests_false (moveHead_eq_some.1 hr).1 (by simp) (by simp)
    split
    · exact steady_endMove hnot ..
    · split
      · exact steady_endMove hnot ..
      · exact steady_startMove hnot ..

theorem steady_chunkCheck (h : execChunkCheck s = .next t) : Steady s t := by
  unfold execChunkCheck at h
  cases h
  split
  · exact .refl s
  · rename_i r hr
    have hnot := moveRequests_false (moveHead_eq_some.1 hr).1 (by simp) (by simp)
    split
    · exact steady_endMove hnot ..
    · refine (Steady.refl s).withMove ?_ fun _ => rfl
      exact id

theorem steady_moveEnd (h : execMoveEnd s = .next t) : Steady s t := by
  unfold execMoveEnd at h
  cases h
  split
  · rename_i r hr
    exact steady_endMove (moveRequests_false (moveHead_eq_some.1 hr).1 (by simp) (by simp)) ..
  · rename_i r _ hr
    exact steady_endMove (moveRequests_false (moveHead_eq_some.1 hr).1 (by simp) (by simp)) ..
  · exact .refl s

/-! ### The Retire Engine -/

/-- The Retire Engine is written after its grant. -/
theorem dataEffect_retireGranted {x : RetireState} (hn : s.nextGrant = some .retireEngine)
    (hc : Requester.retireEngine.grantedBy c) (page : Nat)
    (hx : x.holding = s.retire.state.holding) :
    DataEffect c s { s.beginGrant .retireEngine [] with
      xm := s.xm.scrubPage page, retire.state := x } := by
  refine .granted .retireEngine hn hc ?_ rfl fun q hq hw => ?_
  · exact (keepsData_memory s .retireEngine (Memory.scrubPage_wf page)).trans
      (keepsData_withRetireState _ hx)
  · exact (requests_withRetireState_other s x hq).trans hw

theorem dataEffect_pageScrubGrant (h : execPageScrubGrant s = .next t) :
    DataEffect .pageScrubGrant s t := by
  unfold execPageScrubGrant at h
  split at h
  · rename_i r hs
    split at h
    · rename_i hg
      split at h
      · cases h
        exact dataEffect_retireGranted (nextGrant_of_granted hg) (.inl rfl) r.page (by rw [hs]; rfl)
      · cases h
    · cases h
      exact .refl _ s
  all_goals
    cases h
    exact .refl _ s

/-- The page of the start-up scrub is granted, as the arbiter's next or as the first (R170). -/
theorem startupPage_granted {page : Nat} (h : s.startupPage = some page) :
    s.retire.state = .startUp page .toRequest
      ∨ s.retire.state = .startUp page .requested ∧ s.nextGrant = some .retireEngine := by
  unfold State.startupPage at h
  split at h
  · split at h
    · cases h
      exact .inl ‹_›
    · cases h
  · split at h
    · cases h
      exact .inr ⟨‹_›, nextGrant_of_granted ‹_›⟩
    · cases h
  all_goals cases h

theorem dataEffect_startupScrubGrant (h : execStartupScrubGrant s = .next t) :
    DataEffect .startupScrubGrant s t := by
  unfold execStartupScrubGrant at h
  split at h
  · cases h
    exact .refl _ s
  · rename_i page hp
    split at h
    · cases h
      rcases startupPage_granted hp with hs | ⟨hs, hn⟩
      · refine .firstScrubbed page rfl hs ?_ rfl fun q hw => ?_
        · exact (keepsData_memory s .retireEngine (Memory.scrubPage_wf page)).trans
            (keepsData_withRetireState _ (by rw [hs]; rfl))
        · exact requests_withRetireState (by simp [RetireEngine.requests, hs]) _ hw
      · exact dataEffect_retireGranted hn (.inr rfl) page (by rw [hs]; rfl)
    · cases h

theorem retireRequests_false (h : RetireEngine.requests ⟨[], s.retire.state, false⟩ = false) {p : Prop} :
    s.retire.requests = true → p := fun hr => absurd (h.symm.trans hr) Bool.false_ne_true

theorem steady_startupPageRelease (h : execStartupPageRelease s = .next t) : Steady s t := by
  unfold execStartupPageRelease at h
  cases h
  split
  · rename_i page hs
    have hpage := steady_setPage s page .free
    split
    · refine hpage.withRetireState ?_ fun _ => rfl
      change none = s.retire.state.holding
      rw [hs]
      rfl
    · have hnext : Steady s { s.setPage page .free with retire.state := .idle } := by
        refine hpage.withRetireState ?_ (retireRequests_false (by rw [hs]; rfl))
        change none = s.retire.state.holding
        rw [hs]
        rfl
      exact hnext.trans ⟨⟨id, id, rfl, rfl, fun _ => rfl, fun _ => rfl, rfl⟩, rfl, fun _ => id⟩
  all_goals exact .refl s

/-- The scrub of the next page is requested, of the window that the engine holds (R89). -/
theorem steady_requestScrub {r : RetireRecord} (h : Steady s u)
    (hr : u.retire.state.holding = some (r.window, r.owner)) : Steady s (u.requestScrub r) :=
  (h.trans (steady_setPage u r.page .scrubbing)).withRetireState hr.symm fun _ => rfl

theorem steady_sweep (h : execSweep s = .next t) : Steady s t := by
  unfold execSweep at h
  cases h
  split
  · rename_i r hs
    refine steady_requestScrub (steady_voidKeys ..) ?_
    change s.retire.state.holding = _
    rw [hs]
    rfl
  all_goals exact .refl s

theorem dataEffect_retireTakeHead (h : execRetireTakeHead s = .next t) :
    DataEffect .retireTakeHead s t := by
  unfold execRetireTakeHead at h
  cases h
  split
  · exact .refl _ s
  · rename_i k w cause rest hh
    obtain ⟨hs, -, hw, -⟩ := retireHead_eq_some hh
    refine .taken k w cause hs hw ?_
    have hput : Steady { s with retire.state := .sweeping (w.retireRecord k cause) }
        { s.putWindow k { w with state := .clearing } with
          retire.state := .sweeping (w.retireRecord k cause) } :=
      steady_putWindow (s := { s with retire.state := .sweeping (w.retireRecord k cause) }) hw rfl
    exact hput.trans (steady_retireQueue _ rest)

theorem dataEffect_pageRelease (h : execPageRelease s = .next t) : DataEffect .pageRelease s t := by
  unfold execPageRelease at h
  cases h
  split
  · rename_i r hs
    refine .discharged r.owner ((s.counter r.owner).pages - 1) (Nat.sub_le _ _) ?_
    have hpage := steady_setPage
      (s.setCounter r.owner ⟨(s.counter r.owner).windows, (s.counter r.owner).pages - 1⟩) r.page .free
    have hold : s.retire.state.holding = some (r.window, r.owner) := by
      rw [hs]
      rfl
    simp only
    split
    · exact steady_requestScrub hpage hold
    · exact hpage.withRetireState hold.symm (retireRequests_false (s := s) (by rw [hs]; rfl))
  all_goals exact .refl _ s

theorem dataEffect_windowFreeing (h : execWindowFreeing s = .next t) :
    DataEffect .windowFreeing s t := by
  unfold execWindowFreeing at h
  cases h
  split
  · rename_i r hs
    refine .freed r hs ?_
    have hclose := (((Steady.refl (s.freeEntry r)).post (Notice.retireDone r)).trans
      (steady_closeIfLast _ r.owner))
    refine ⟨⟨hclose.memory, hclose.tables, hclose.counters, hclose.phase, hclose.quota, hclose.owner,
      rfl⟩, hclose.lastGranted, fun q hq => ?_⟩
    cases q with
    | port i => exact hclose.requests (.port i) hq
    | moveEngine => exact hclose.requests .moveEngine hq
    | retireEngine => cases hq
  all_goals exact .refl _ s

theorem dataEffect_scrubEnd (h : execScrubEnd s = .next t) : DataEffect .scrubEnd s t := by
  unfold execScrubEnd at h
  cases h
  split
  · rename_i he
    refine .scrubEnded he ⟨⟨id, fun ht => ?_, rfl, rfl, fun _ => rfl, fun _ => rfl, rfl⟩, rfl, fun q hq => ?_⟩
    · obtain ⟨h1, h2, h3, h4, h5, h6, h7, h8, h9⟩ := ht
      refine ⟨h1, h2, h3, h4, h5, h6, h7, h8, fun i => ?_⟩
      cases i
      · exact h9 .pPort
      · exact h9 .nPort
      · exact h9 .aPort
    · cases q with
      | port i => cases i <;> exact hq
      | moveEngine => exact hq
      | retireEngine => exact hq
  · exact .refl _ s

end Sys2Proof.Machine
end

section
/-! SUPPORT. Every command and event has one of the effects on the data.
-/

namespace Sys2Proof.Machine

variable {s t : State} {c : Instr}

/-- A command that answers after an act that leaves the data steady. -/
theorem dataEffect_answering {α : Type} {i : PortId} {checks : Except ResultCode α} {act : α → State}
    {code : ResultCode} {detail : α → List Byte} (h : ∀ a, checks = .ok a → Steady s (act a)) :
    DataEffect c s (s.onIdle i (s.checked i checks fun a => (act a).answer i code (detail a))) :=
  dataEffect_command fun a ha => .steady ((h a ha).answer ..)

theorem steady_lineEdge {line : Fin 8} {level : Bool} (h : execLineEdge line level s = .next t) :
    Steady s t := by
  unfold execLineEdge at h
  cases h
  split
  · exact .refl s
  · exact steady_events s (Table.wf_store _ _ _ _)

theorem steady_tamperLineEvent {line : Fin 8} (h : execTamperLineEvent line s = .next t) :
    Steady s t := by
  unfold execTamperLineEvent at h
  cases h
  split
  · have htake : Steady s (s.takeLineEvent line.val) := steady_events s id
    exact ((htake.trans (steady_tamper _ true)).trans (steady_retireAll _ _ _)).postAll _
  · exact .refl s

theorem steady_selectApp (s : State) (slot : Fin 32) : Steady s (s.selectApp slot) := by
  unfold State.selectApp
  split
  · exact .refl s
  · have ha : Steady s (s.setPort .aPort { s.ports.a with staging := [], mark := false }) :=
      steady_setPort s .aPort _ (fun _ => rfl) id
    exact ha.trans ⟨⟨id, fun h => h, rfl, rfl, fun _ => rfl, fun _ => rfl, rfl⟩, rfl, fun _ => id⟩

/-- What a command or an event makes of the data is one of the effects listed. -/
theorem exec_dataEffect (h : exec c s = .next t) : DataEffect c s t := by
  cases c
  case readStatus i =>
    cases h
    refine dataEffect_onPort (.steady (Steady.answer ?_ _ _ _))
    exact steady_setPort s i _ id id
  case readNotice i =>
    cases h
    refine dataEffect_onPort (.steady ?_)
    split
    · exact steady_answer ..
    · refine (steady_setPort s i _ ?_ ?_).answer ..
      · exact id
      · exact id
  case portReset i =>
    cases h
    refine dataEffect_onPort (.steady ?_)
    split
    · exact (steady_actReset s i).answer ..
    · refine (steady_setPort s i _ ?_ ?_).answer ..
      · exact id
      · exact id
    · exact steady_answer ..
    · exact .refl s
  case loadStaging i column count payload =>
    cases h
    split
    · exact dataEffect_answering fun _ _ => steady_setPort s i _ (Table.wf_writeRun _ _ _ _) id
    · exact .steady (steady_answer ..)
  case clearStaging i =>
    cases h
    refine dataEffect_onPort (.steady (Steady.answer ?_ _ _ _))
    exact steady_setPort s i _ (fun _ => rfl) id
  case put =>
    cases h
    exact dataEffect_command fun _ hx => .steady (steady_acceptTransfer hx)
  case fetch =>
    cases h
    exact dataEffect_command fun _ hx => .steady (steady_acceptTransfer hx)
  case move =>
    cases h
    refine dataEffect_answering fun r _ => (Steady.refl s).withMove ?_ ?_
    · exact id
    · exact id
  case openWindow i a =>
    cases h
    exact dataEffect_command fun x hx => .opened i a x hx (steady_answer ..)
  case grantView =>
    cases h
    exact dataEffect_answering fun _ _ => (steady_views s (Table.rising_put _ _ _)).post _
  case narrowView =>
    cases h
    exact dataEffect_answering fun _ _ => steady_withViews s (rising_applyPlan · _) _
  case dropView =>
    cases h
    exact dataEffect_answering fun _ _ => steady_voidKeys ..
  case retireWindow =>
    cases h
    exact dataEffect_answering fun _ _ => steady_beginRetirement ..
  case renew =>
    cases h
    exact dataEffect_answering fun _ hx => steady_putWindow (checkOwner_ok hx).1 rfl
  case stageLimit =>
    cases h
    refine dataEffect_answering fun _ hx =>
      steady_putWindow (checkSwapper_ok (checkStageLimit_ok hx).1).1 ?_
    rw [Window.setBank_eq]
  case swapBanks =>
    cases h
    exact dataEffect_answering fun _ hx => steady_requestExchange .holder (checkSwapper_ok hx).1
  case selectApp =>
    cases h
    exact dataEffect_onAPort (dataEffect_checked fun _ _ => .steady ((steady_selectApp ..).answer ..))
  case openSlot =>
    cases h
    exact dataEffect_onAPort (dataEffect_checked fun _ _ => .steady ((steady_setSlot ..).answer ..))
  case closeSlot =>
    cases h
    exact dataEffect_onAPort (dataEffect_checked fun _ _ => .steady ((steady_teardown ..).answer ..))
  case setPools =>
    cases h
    exact dataEffect_answering fun _ _ => steady_policy s rfl (fun a => by cases a <;> rfl) id
  case setQuota =>
    cases h
    refine dataEffect_command fun x hx => ?_
    obtain ⟨hr, hp, hl⟩ := checkSetQuota_unlocked hx
    exact .quotaSet x hr hp hl (steady_answer ..)
  case setLine =>
    cases h
    exact dataEffect_answering fun _ _ =>
      steady_policy s rfl (fun a => by cases a <;> rfl) (Table.wf_store _ _ _ _)
  case lockPolicy =>
    cases h
    exact dataEffect_command fun _ _ => .locked (steady_answer ..)
  case clearTamper =>
    cases h
    exact dataEffect_answering fun _ _ => steady_tamper s false
  case frameRejected =>
    cases h
    split
    · exact .steady (steady_answer ..)
    · exact .steady (steady_answer ..)
    all_goals exact .refl _ s
  case frameDiscarded i bytes =>
    cases h
    split
    · exact .steady (steady_setPort s i _ id id)
    all_goals exact .refl _ s
  case deviceReset levels flips =>
    cases h
    exact .reset levels flips s.pending rfl
  case startupScrubGrant => exact dataEffect_startupScrubGrant h
  case startupPageRelease => exact .steady (steady_startupPageRelease h)
  case scrubEnd => exact dataEffect_scrubEnd h
  case putGrant => exact dataEffect_putGrant h
  case fetchGrant => exact dataEffect_fetchGrant h
  case transferCompletion =>
    cases h
    split
    · exact .steady (steady_complete ‹_› _)
    all_goals exact .refl _ s
  case moveTakeHead => exact .steady (steady_moveTakeHead h)
  case startCheck => exact .steady (steady_startCheck h)
  case fillPatternRead => exact dataEffect_fillPatternRead h
  case chunkCheck => exact .steady (steady_chunkCheck h)
  case moveChunkGrant => exact dataEffect_moveChunkGrant h
  case moveEnd => exact .steady (steady_moveEnd h)
  case retireTakeHead => exact dataEffect_retireTakeHead h
  case sweep => exact .steady (steady_sweep h)
  case pageScrubGrant => exact dataEffect_pageScrubGrant h
  case pageRelease => exact dataEffect_pageRelease h
  case windowFreeing => exact dataEffect_windowFreeing h
  case lineEdge => exact .steady (steady_lineEdge h)
  case lineEvent line =>
    cases h
    split
    · have htake : Steady s (s.takeLineEvent line.val) := steady_events s id
      exact .steady (htake.trans (steady_foldl _ (fun t k => steady_lineAction t _ k) _ _))
    · exact .refl _ s
  case tamperLineEvent => exact .steady (steady_tamperLineEvent h)
  case tick =>
    cases h
    split
    · exact .refl _ s
    · exact .steady (steady_takeTick s)
  case lifetimeExpiry =>
    cases h
    split
    · exact .refl _ s
    · split
      · exact .steady (steady_takeTick s)
      · exact .refl _ s
  case tickEmit =>
    cases h
    refine .steady (steady_events s ?_)
    exact id
  case readStaging | describeView =>
    cases h
    exact dataEffect_answering fun _ _ => .refl s

/-- A step is what its command or event does to the data, with the rest of the queue waiting; one that idles
is as one of a tick that is not due. -/
theorem step_dataEffect (h : step s = .next t) :
    ∃ c rest, DataEffect c { s with pending := rest } t := by
  unfold step at h
  split at h
  · cases h
    exact ⟨.tick, s.pending, .refl _ s⟩
  · exact ⟨_, _, exec_dataEffect h⟩

end Sys2Proof.Machine
end

section
/-! SUPPORT. Exchange memory stays in its canonical form, and every table does (R99).
-/

namespace Sys2Proof.Machine

variable {s t : State} {c : Instr}

/-- Whatever a command or an event does keeps exchange memory canonical. -/
theorem DataEffect.memory (he : DataEffect c s t) (h : MemoryCanonical s) : MemoryCanonical t := by
  cases he with
  | steady hst => exact hst.memory h
  | granted _ _ _ hk => exact hk.memory h
  | firstScrubbed _ _ _ hk => exact hk.memory h
  | opened _ _ _ _ hst => exact hst.memory h
  | discharged _ _ _ hst => exact hst.memory h
  | taken _ _ _ _ _ hst => exact hst.memory h
  | freed _ _ hst => exact hst.memory h
  | quotaSet _ _ _ _ hst => exact hst.memory h
  | locked hst => exact hst.memory h
  | scrubEnded _ hst => exact hst.memory h
  | reset => exact Memory.disturb_wf _ h

theorem tablesCanonical_setCounter (h : TablesCanonical s) (a : Holder) (n : Counter) :
    TablesCanonical (s.setCounter a n) := by
  obtain ⟨h1, h2, h3, h4, h5, hrest⟩ := h
  exact ⟨h1, h2, h3, h4, Table.wf_store _ _ _ _ h5, hrest⟩

theorem wf_allocateBank {pages : Table PageState} (h : Table.wf .scrubbing pages = true) (k : Nat)
    (n : BankNo) (b : Option Bank) : Table.wf .scrubbing (allocateBank pages k n b) = true := by
  cases b with
  | none => exact h
  | some b => exact Table.wf_fillRun _ _ _ _ _ h

/-- A window opened is an entry, a root, its pages and its charge written (R16, R108). -/
theorem tablesCanonical_openWindow (h : TablesCanonical s) (x : OpenTicket) :
    TablesCanonical (s.openWindow x) := by
  obtain ⟨h1, h2, h3, h4, h5, hrest⟩ := tablesCanonical_setCounter h x.owner
    ⟨(s.counter x.owner).windows + 1, (s.counter x.owner).pages + x.request.pages⟩
  exact ⟨Table.rising_put _ _ _ h1, Table.rising_put _ _ _ h2, h3,
    wf_allocateBank (wf_allocateBank h4 ..) .., h5, hrest⟩

theorem tablesCanonical_freeEntry (h : TablesCanonical s) (r : RetireRecord) :
    TablesCanonical (s.freeEntry r) := by
  obtain ⟨h1, h2, h3, h4, h5, hrest⟩ := h
  exact ⟨Table.rising_filter _ _ h1, h2, h3, h4, Table.wf_store _ _ _ _ h5, hrest⟩

theorem wf_levelsOf (levels : BitVec 8) : Table.wf false (levelsOf levels) = true := by
  have hfold (l : List Nat) (e : Table Bool) (he : Table.wf false e = true) :
      Table.wf false (l.foldl (fun e n => Table.store false e n (levels.getLsbD n)) e) = true := by
    induction l generalizing e with
    | nil => exact he
    | cons n l ih => exact ih _ (Table.wf_store _ _ _ _ he)
  exact hfold _ [] rfl

/-- Whatever a command or an event does keeps every table canonical. -/
theorem DataEffect.tables (he : DataEffect c s t) (h : TablesCanonical s) : TablesCanonical t := by
  cases he with
  | steady hst => exact hst.tables h
  | granted _ _ _ hk => exact hk.tables h
  | firstScrubbed _ _ _ hk => exact hk.tables h
  | opened _ _ x _ hst => exact hst.tables (tablesCanonical_openWindow h x)
  | discharged a n _ hst => exact hst.tables (tablesCanonical_setCounter h a _)
  | taken _ _ _ _ _ hst => exact hst.tables h
  | freed r _ hst => exact hst.tables (tablesCanonical_freeEntry h r)
  | quotaSet x _ _ hl hst =>
    obtain ⟨h1, h2, h3, h4, h5, h6, h7, h8, h9⟩ := h
    exact hst.tables ⟨h1, h2, h3, h4, h5, h6, h7, hl.symm ▸ h8, h9⟩
  | locked hst => exact hst.tables h
  | scrubEnded _ hst => exact hst.tables h
  | reset levels =>
    exact ⟨rfl, rfl, rfl, rfl, rfl, rfl, wf_levelsOf levels, rfl, fun i => by cases i <;> rfl⟩

/-- Settles O52: every write of memory lies in its address range, and every write of a table goes through
its operations, which keep the canonical form. -/
theorem dataStaysCanonical : Obligations.DataStaysCanonical := by
  refine ⟨fun s t hs h => ?_, fun s t hs h => ?_⟩
  · obtain ⟨c, rest, he⟩ := step_dataEffect h
    exact DataEffect.memory (s := { s with pending := rest }) he hs
  · obtain ⟨c, rest, he⟩ := step_dataEffect h
    exact DataEffect.tables (s := { s with pending := rest }) he hs

end Sys2Proof.Machine
end

section
/-! SUPPORT. The ports stay in step with the device phase and with the start-up scrub (R160, R170).
-/

namespace Sys2Proof.Machine

variable {s t u : State}

theorem PhaseCoherent.same (h : PhaseCoherent s) (hst : SameWork s t) : PhaseCoherent t :=
  h.congr hst.portState hst.transfer hst.phase (by rw [hst.retire]) (by rw [hst.retire])

theorem PhaseCoherent.leads (h : PhaseCoherent s) (hl : s.Leads t) : PhaseCoherent t := by
  refine hl.keeps (P := PhaseCoherent) (fun u v hact hu => ?_) h
  cases hact with
  | same hst => exact hu.same hst
  | window => exact hu
  | pruned => exact hu
  | joined => exact hu

/-- A port that is ready shows that the phase is not STARTING (R160). -/
theorem PhaseCoherent.ready (h : PhaseCoherent s) {i : PortId} (hi : (s.port i).state ≠ .notReady) :
    s.policy.phase ≠ .starting := fun hp => hi ((h.1 i).2 hp)

theorem PhaseCoherent.transferring (h : PhaseCoherent s) {i : PortId} {x : Transfer}
    (hx : (s.port i).transfer = some x) : s.policy.phase ≠ .starting := fun hp => by
  simp [h.2.1 hp i] at hx

/-- The Retire Engine goes to another state; it enters START-UP by a device reset alone (R86). -/
theorem PhaseCoherent.retires (h : PhaseCoherent s) (ht : SameWork u t) (hports : u.ports = s.ports)
    (hpolicy : u.policy = s.policy) (hend : u.retire.endReport = s.retire.endReport)
    (hx : u.retire.state.isStartUp = true → s.retire.state.isStartUp = true) : PhaseCoherent t := by
  refine PhaseCoherent.same ?_ ht
  obtain ⟨h1, h2, h3, h4⟩ := h
  simp only [PhaseCoherent, State.port, hports, hpolicy, hend]
  exact ⟨h1, h2, h3 ∘ hx, h4⟩

/-- A ready port written as ready again. -/
theorem PhaseCoherent.setReady (h : PhaseCoherent s) {i : PortId} {y : Port}
    (hi : s.policy.phase ≠ .starting) (hy : y.state ≠ .notReady) : PhaseCoherent (s.setPort i y) :=
  h.setPort (iff_of_false hy fun e => hi ((h.1 i).1 e)) (.inl hi)

theorem PhaseCoherent.locked (h : PhaseCoherent s) (hp : s.policy.phase ≠ .starting) :
    PhaseCoherent { s with policy.phase := .running } := by
  obtain ⟨h1, h2, h3, h4⟩ := h
  exact ⟨fun i => ⟨fun hi => absurd ((h1 i).1 hi) hp, fun e => nomatch e⟩, fun e => (nomatch e),
    fun hs => absurd (h3 hs).1 hp, fun he => absurd (h4 he) hp⟩

theorem PhaseCoherent.startupLast (h : PhaseCoherent s) (hs : s.retire.state.isStartUp = true) :
    PhaseCoherent { s with retire.state := .idle, retire.endReport := true } := by
  obtain ⟨h1, h2, h3, -⟩ := h
  exact ⟨h1, h2, fun e => (nomatch e), fun _ => (h3 hs).1⟩

theorem PhaseCoherent.scrubEnded (h : PhaseCoherent s) (he : s.retire.endReport = true) :
    PhaseCoherent { s with
      policy.phase := .configuring, retire.endReport := false, ports := s.ports.allIdle } := by
  obtain ⟨-, -, h3, -⟩ := h
  refine ⟨fun i => ⟨fun e => ?_, fun e => (nomatch e)⟩, fun e => (nomatch e),
    fun e => absurd ((h3 e).2.symm.trans he) Bool.false_ne_true, fun e => (nomatch e)⟩
  have hi : (s.ports.allIdle.get i).state = .notReady := e
  rw [Ports.get_allIdle] at hi
  cases hi

/-- The end of a transfer leaves its port ready (R55). -/
theorem PhaseCoherent.completed (h : PhaseCoherent s) {i : PortId} {x : Transfer}
    (hx : (s.port i).transfer = some x) (c : Completion) (last : LastResult) :
    PhaseCoherent (((s.lowerTransfer x c).freePort i last).settleAll [x.window]) := by
  have hlow := keepsWork_lowerTransfer s x c
  refine (keepsWork_settleAll _ _).phaseCoherent ((hlow.phaseCoherent h).setReady ?_ (by simp))
  rw [hlow.policy]
  exact h.transferring hx

/-- Whatever a command or an event does keeps the ports in step with the phase. -/
theorem PhaseCoherent.effect (h : PhaseCoherent s) (he : Effect s t) : PhaseCoherent t := by
  cases he with
  | leads hl => exact h.leads hl
  | latched hl _ => exact PhaseCoherent.leads (s := { s with dir.tamper := true }) h hl
  | unlatched ht => exact PhaseCoherent.same (s := { s with dir.tamper := false }) h ht
  | reserved n p _ _ ht =>
    exact PhaseCoherent.same (s := { s with policy.nReserve := n, policy.pReserve := p }) h ht
  | locked i hi ht => exact (h.locked (h.ready (i := i) (by simp [hi]))).same ht
  | opened i a x hx ht => exact PhaseCoherent.same (s := s.openWindow x) h ht
  | admitted i x w b hi _ _ _ _ _ ht =>
    refine (PhaseCoherent.setReady (s := s.putWindow x.window { w with inFlight := w.inFlight + 1 }) h
      ?_ ?_).same ht
    · exact h.ready (i := i) (by simp [hi])
    · simp
  | waits i hi ht => exact (h.setReady (h.ready (i := i) (by simp [hi])) (by simp)).same ht
  | granted i x c m hx _ ht =>
    have hp := h.transferring hx
    have hport : PhaseCoherent (s.setPort i { s.port i with completion := some c }) :=
      h.setReady hp fun e => hp ((h.1 i).1 e)
    exact PhaseCoherent.same
      (s := { s.setPort i { s.port i with completion := some c } with xm := m }) hport ht
  | completed i x c last hx ht => exact (h.completed hx c last).leads ht
  | moveTaken => exact h
  | moveStarted r x _ _ _ =>
    obtain ⟨y, -, hk⟩ := s.startMove_keeps r x
    exact hk.phaseCoherent h
  | moveAdvanced r n x c p m _ _ _ _ _ ht =>
    exact PhaseCoherent.same (s := { s with
      xm := m, move := ⟨{ r with progress := r.progress + n } :: s.move.queue.tail, x, c, p⟩ }) h ht
  | moveEnded r dataError _ _ ht =>
    have hrel := (s.releaseHead_keeps r dataError).phaseCoherent h
    exact ((keepsWork_settleAll _ _).phaseCoherent hrel).same ht
  | retireTaken => exact h.retires (.refl _) rfl rfl rfl fun e => nomatch e
  | swept _ _ _ _ ht => exact h.retires ht rfl rfl rfl fun e => nomatch e
  | pageScrubbed _ _ ht => exact h.retires ht rfl rfl rfl fun e => nomatch e
  | pageNext _ _ _ _ _ ht => exact h.retires ht rfl rfl rfl fun e => nomatch e
  | pageLast _ _ _ ht => exact h.retires ht rfl rfl rfl fun e => nomatch e
  | freed _ _ ht => exact h.retires ht rfl rfl rfl fun e => nomatch e
  | deviceReset =>
    obtain ⟨hreset, -⟩ := workAccounted_reset
    exact hreset
  | startupScrubbed _ _ hs ht => exact h.retires ht rfl rfl rfl fun _ => by rw [hs]; rfl
  | startupNext _ hs _ ht => exact h.retires ht rfl rfl rfl fun _ => by rw [hs]; rfl
  | startupLast page hs ht =>
    have hx := h.startupLast (by rw [hs]; rfl)
    exact PhaseCoherent.same (s := { s.setPage page .free with
      retire.state := .idle, retire.endReport := true }) hx ht
  | scrubEnded he => exact h.scrubEnded he

end Sys2Proof.Machine
end

section
/-! SUPPORT. Tables of rising keys as what their keys hold: equal where the keys hold the same, and one entry
longer after a key is put that was not listed.
-/

namespace Sys2Proof

variable {α β : Type}

/-- In a table of rising keys the entries are what the keys hold. -/
theorem Table.mem_iff_at? {t : Table α} (h : Table.rising t = true) (e : Nat × α) :
    e ∈ t ↔ Table.at? t e.1 = some e.2 :=
  ⟨Table.at?_of_mem h, Table.mem_of_at?⟩

/-- Tables of rising keys that hold the same at each key are the same table. -/
theorem Table.eq_of_at? {t t' : Table α} (h : Table.rising t = true) (h' : Table.rising t' = true)
    (hat : ∀ k, Table.at? t k = Table.at? t' k) : t = t' := by
  have hmem (e : Nat × α) : e ∈ t ↔ e ∈ t' := by
    rw [Table.mem_iff_at? h, Table.mem_iff_at? h', hat]
  rw [Table.rising_iff] at h h'
  have hirrefl : Std.Irrefl fun a b : Nat × α => a.1 < b.1 := ⟨fun a => Nat.lt_irrefl a.1⟩
  have hantisymm : Std.Antisymm fun a b : Nat × α => a.1 < b.1 :=
    ⟨fun _ _ hab hba => absurd hab (Nat.lt_asymm hba)⟩
  exact h.eq_of_mem_iff h' hmem

/-- Each value of a table mapped. -/
def Table.mapValues (f : α → β) (t : Table α) : Table β := t.map fun e => (e.1, f e.2)

theorem Table.at?_mapValues (f : α → β) (t : Table α) (k : Nat) :
    Table.at? (Table.mapValues f t) k = (Table.at? t k).map f := by
  induction t with
  | nil => rfl
  | cons e t ih =>
    obtain ⟨j, v⟩ := e
    change Table.at? ((j, f v) :: Table.mapValues f t) k = _
    rw [Table.at?_cons, Table.at?_cons, ih]
    split <;> rfl

theorem Table.rising_mapValues (f : α → β) {t : Table α} (h : Table.rising t = true) :
    Table.rising (Table.mapValues f t) = true := by
  rw [Table.rising_iff] at *
  exact List.pairwise_map.2 h

/-- A key that was not listed is one entry more. -/
theorem Table.put_perm {t : Table α} {k : Nat} (h : Table.at? t k = none) (v : α) :
    (Table.put t k v).Perm ((k, v) :: t) := by
  induction t with
  | nil => exact .refl _
  | cons e t ih =>
    obtain ⟨j, w⟩ := e
    rw [Table.at?_cons] at h
    split at h
    · cases h
    · rename_i hj
      simp only [Table.put, if_neg hj]
      split
      · exact .refl _
      · exact ((ih h).cons _).trans (List.Perm.swap ..)

/-- A listed key removed is one entry less. -/
theorem Table.perm_remove {t : Table α} {k : Nat} {v : α} (hr : Table.rising t = true)
    (h : Table.at? t k = some v) : t.Perm ((k, v) :: Table.remove t k) := by
  have hremoved := Table.rising_filter t (fun e => e.1 != k) hr
  have hput : Table.put (Table.remove t k) k v = t := by
    refine Table.eq_of_at? (Table.rising_put _ _ _ hremoved) hr fun j => ?_
    rw [Table.at?_put, Table.at?_remove]
    by_cases hj : k = j
    · rw [if_pos hj, ← hj, h]
    · rw [if_neg hj, if_neg (Ne.symm hj)]
  have hperm := Table.put_perm (t := Table.remove t k) (k := k)
    (by rw [Table.at?_remove, if_pos rfl]) v
  rwa [hput] at hperm

end Sys2Proof
end

section
/-! SUPPORT. The quota counters (R110, R112): no holder passes its quota, and the window count of a holder is
the number of windows that it owns.
-/

namespace Sys2Proof.Machine

variable {s t u : State} {c : Instr}

/-! ### Within the quotas -/

theorem KeepsData.counter (h : KeepsData s t) (a : Holder) : t.counter a = s.counter a := by
  rw [State.counter, h.counters]
  rfl

/-- Counters that do not rise stay within quotas that do not change. -/
theorem QuotasRespected.of_le (h : QuotasRespected s) (hp : t.policy.phase = s.policy.phase)
    (hq : ∀ a, t.policy.quota a = s.policy.quota a)
    (hc : ∀ a, (t.counter a).windows ≤ (s.counter a).windows
      ∧ (t.counter a).pages ≤ (s.counter a).pages) : QuotasRespected t := by
  obtain ⟨hzero, hle⟩ := h
  refine ⟨fun hr a => ?_, fun a => ?_⟩
  · have ha := hc a
    rw [hzero (hp ▸ hr) a] at ha
    exact congrArg₂ Counter.mk (Nat.le_zero.1 ha.1) (Nat.le_zero.1 ha.2)
  · rw [hq a]
    exact ⟨(hc a).1.trans (hle a).1, (hc a).2.trans (hle a).2⟩

theorem QuotasRespected.keeps (h : QuotasRespected s) (hk : KeepsData s t) : QuotasRespected t :=
  h.of_le hk.phase hk.quota fun a => by rw [hk.counter a]; exact ⟨le_refl _, le_refl _⟩

/-- One counter that does not rise. -/
theorem QuotasRespected.setCounter (h : QuotasRespected s) {a : Holder} {n : Counter}
    (h1 : n.windows ≤ (s.counter a).windows) (h2 : n.pages ≤ (s.counter a).pages) :
    QuotasRespected (s.setCounter a n) := by
  refine h.of_le rfl (fun _ => rfl) fun b => ?_
  rw [State.counter_setCounter]
  split
  · rename_i e
    cases Holder.code_injective e
    exact ⟨h1, h2⟩
  · exact ⟨le_refl _, le_refl _⟩

/-- OPEN WINDOW is taken while RUNNING, where the quota leaves a window and its pages (R13 checks 1, 8 and
9). -/
theorem checkOpenWindow_quota {i : PortId} {a : OpenParams} {x : OpenTicket}
    (h : checkOpenWindow i a s = .ok x) :
    s.policy.phase = .running
      ∧ (s.counter x.owner).windows < (s.policy.quota x.owner).windows
      ∧ (s.counter x.owner).pages + x.request.pages ≤ (s.policy.quota x.owner).pages := by
  simp only [checkOpenWindow, Checks.bind_eq_ok, require_eq_ok, found_eq_ok, Checks.pure_eq,
    Except.ok.injEq, decide_eq_true_eq] at h
  obtain ⟨-, hp, -, -, r, -, -, -, -, -, n, -, k, -, -, hw, -, hg, place, -, rfl⟩ := h
  exact ⟨hp, hw, hg⟩

/-- What OPEN WINDOW leaves each counter at (R15). -/
theorem counter_openWindow (s : State) (x : OpenTicket) (b : Holder) :
    (s.openWindow x).counter b
      = if b.code = x.owner.code then
          ⟨(s.counter x.owner).windows + 1, (s.counter x.owner).pages + x.request.pages⟩
        else s.counter b :=
  s.counter_setCounter x.owner b
    ⟨(s.counter x.owner).windows + 1, (s.counter x.owner).pages + x.request.pages⟩

theorem QuotasRespected.opened (h : QuotasRespected s) {i : PortId} {a : OpenParams} {x : OpenTicket}
    (hx : checkOpenWindow i a s = .ok x) : QuotasRespected (s.openWindow x) := by
  obtain ⟨hp, hw, hg⟩ := checkOpenWindow_quota hx
  refine ⟨fun hr => absurd hp hr, fun b => ?_⟩
  rw [counter_openWindow]
  split
  · rename_i e
    cases Holder.code_injective e
    exact ⟨hw, hg⟩
  · exact h.2 b

/-- Quotas may be set while nothing is charged (R112, R172). -/
theorem QuotasRespected.withPolicy (h : QuotasRespected s) (hr : s.policy.phase ≠ .running)
    (x : Policy) : QuotasRespected { s with policy := x } :=
  ⟨fun _ => h.1 hr, fun a => by
    have ha : ({ s with policy := x } : State).counter a = ⟨0, 0⟩ := h.1 hr a
    rw [ha]
    exact ⟨Nat.zero_le _, Nat.zero_le _⟩⟩

/-- Whatever a command or an event does keeps every holder within its quotas. -/
theorem QuotasRespected.effect (h : QuotasRespected s) (hp : PhaseCoherent s)
    (he : DataEffect c s t) : QuotasRespected t := by
  cases he with
  | steady hst => exact h.keeps hst.toKeepsData
  | granted _ _ _ hk => exact h.keeps hk
  | firstScrubbed _ _ _ hk => exact h.keeps hk
  | opened i a x hx hst => exact (h.opened hx).keeps hst.toKeepsData
  | discharged a n hn hst =>
    have hle : QuotasRespected (s.setCounter a ⟨(s.counter a).windows, n⟩) :=
      h.setCounter (le_refl _) hn
    exact hle.keeps hst.toKeepsData
  | taken k w cause _ _ hst =>
    exact QuotasRespected.keeps (s := { s with retire.state := .sweeping (w.retireRecord k cause) }) h
      hst.toKeepsData
  | freed r _ hst =>
    have hfree : QuotasRespected (s.setCounter r.owner
        ⟨(s.counter r.owner).windows - 1, (s.counter r.owner).pages⟩) :=
      h.setCounter (Nat.sub_le _ _) (le_refl _)
    exact QuotasRespected.keeps (s := { s.freeEntry r with retire.state := .idle }) hfree
      hst.toKeepsData
  | quotaSet x hr _ _ hst => exact (h.withPolicy hr x).keeps hst.toKeepsData
  | locked hst =>
    exact QuotasRespected.keeps (s := { s with policy.phase := .running })
      ⟨fun hr => absurd rfl hr, h.2⟩ hst.toKeepsData
  | scrubEnded hend hst =>
    have hstarting : s.policy.phase ≠ .running := by
      rw [hp.2.2.2 hend]
      exact fun e => nomatch e
    exact (h.withPolicy hstarting _).keeps hst.toKeepsData
  | reset => exact ⟨fun _ _ => rfl, fun _ => ⟨Nat.zero_le _, Nat.zero_le _⟩⟩

/-! ### The windows that a holder owns -/

/-- The number of windows that a holder owns and that are not FREE. -/
def ownedCount (windows : Table Window) (a : Holder) : Nat :=
  (windows.filter fun e => decide (e.2.owner = a)).length

theorem ownedCount_perm {ws ws' : Table Window} (h : ws.Perm ws') (a : Holder) :
    ownedCount ws a = ownedCount ws' a := (h.filter _).length_eq

theorem ownedCount_cons (k : Nat) (w : Window) (ws : Table Window) (a : Holder) :
    ownedCount ((k, w) :: ws) a = ownedCount ws a + if w.owner = a then 1 else 0 := by
  unfold ownedCount
  by_cases h : w.owner = a <;> simp [h]

/-- The count rests on the owner of each window alone. -/
theorem ownedCount_congr {ws ws' : Table Window} (h : Table.rising ws = true)
    (h' : Table.rising ws' = true)
    (ho : ∀ k, (Table.at? ws k).map Window.owner = (Table.at? ws' k).map Window.owner) (a : Holder) :
    ownedCount ws a = ownedCount ws' a := by
  have hmapped : Table.mapValues Window.owner ws = Table.mapValues Window.owner ws' := by
    refine Table.eq_of_at? (Table.rising_mapValues _ h) (Table.rising_mapValues _ h') fun k => ?_
    rw [Table.at?_mapValues, Table.at?_mapValues, ho]
  have hcount (vs : Table Window) :
      ownedCount vs a = (Table.mapValues Window.owner vs).countP fun e => decide (e.2 = a) := by
    rw [ownedCount, Table.mapValues, List.countP_map, List.countP_eq_length_filter]
    rfl
  rw [hcount, hcount, hmapped]

/-- The counters count the windows owned, and what the Retire Engine holds is owned as it has it. -/
theorem countersHeld_iff : CountersHeld s
    ↔ (∀ a, (s.counter a).windows = ownedCount s.dir.windows a)
      ∧ ∀ k a, s.retire.state.holding = some (k, a) → (s.window? k).map Window.owner = some a := by
  refine and_congr_right fun _ => ⟨fun h k a hk => ?_, fun h r hr => h r.window r.owner ?_⟩
  · obtain ⟨r, hr, e⟩ := Option.map_eq_some_iff.1 hk
    cases e
    exact h r hr
  · exact Option.map_eq_some_iff.2 ⟨r, hr, rfl⟩

theorem CountersHeld.keeps (h : CountersHeld s) (hk : KeepsData s t)
    (hs : Table.rising s.dir.windows = true) (ht : Table.rising t.dir.windows = true) :
    CountersHeld t := by
  obtain ⟨hcount, hheld⟩ := countersHeld_iff.1 h
  refine countersHeld_iff.2 ⟨fun a => ?_, fun k a hka => ?_⟩
  · rw [hk.counter, hcount]
    exact ownedCount_congr hs ht (fun k => (hk.owner k).symm) a
  · rw [hk.owner]
    exact hheld k a (hk.holding ▸ hka)

/-- A window opened stands against its owner (R15, R110). -/
theorem CountersHeld.opened (h : CountersHeld s) {i : PortId} {a : OpenParams} {x : OpenTicket}
    (hx : checkOpenWindow i a s = .ok x) : CountersHeld (s.openWindow x) := by
  obtain ⟨-, -, -, hk, -⟩ := checkOpenWindow_ok hx
  have hfree := freeWindow_eq_some hk
  obtain ⟨hcount, hheld⟩ := countersHeld_iff.1 h
  refine countersHeld_iff.2 ⟨fun b => ?_, fun k b hkb => ?_⟩
  · have hput : ownedCount (s.openWindow x).dir.windows b
        = ownedCount s.dir.windows b + if x.owner = b then 1 else 0 :=
      (ownedCount_perm (Table.put_perm hfree x.window) b).trans (ownedCount_cons ..)
    rw [hput, counter_openWindow]
    by_cases hb : x.owner = b
    · subst hb
      rw [if_pos rfl, if_pos rfl, ← hcount]
    · rw [if_neg fun e => hb (Holder.code_injective e).symm, if_neg hb, hcount]
      rfl
  · have hold := hheld k b hkb
    rw [State.window?_openWindow, if_neg]
    · exact hold
    · rintro rfl
      rw [hfree] at hold
      cases hold

/-- A page charge may fall, since it is no window count. -/
theorem CountersHeld.discharged (h : CountersHeld s) (a : Holder) (n : Nat) :
    CountersHeld (s.setCounter a ⟨(s.counter a).windows, n⟩) := by
  obtain ⟨hcount, hheld⟩ := h
  refine ⟨fun b => ?_, hheld⟩
  rw [State.counter_setCounter]
  split
  · rename_i e
    cases Holder.code_injective e
    exact hcount a
  · exact hcount b

/-- A window freed no longer stands against its owner (R11, R90). -/
theorem CountersHeld.freed (h : CountersHeld s) (hr : Table.rising s.dir.windows = true)
    {r : RetireRecord} (hs : s.retire.state = .freeing r) :
    CountersHeld { s.freeEntry r with retire.state := .idle } := by
  obtain ⟨hcount, hheld⟩ := countersHeld_iff.1 h
  have howner := hheld r.window r.owner (by rw [hs]; rfl)
  obtain ⟨w, hw, hwo⟩ := Option.map_eq_some_iff.1 howner
  refine countersHeld_iff.2 ⟨fun b => ?_, fun _ _ hk => nomatch hk⟩
  have hold : ownedCount s.dir.windows b
      = ownedCount (Table.remove s.dir.windows r.window) b + if w.owner = b then 1 else 0 :=
    (ownedCount_perm (Table.perm_remove hr hw) b).trans (ownedCount_cons ..)
  have hb := hcount b
  rw [hold, hwo] at hb
  change ((s.setCounter r.owner ⟨(s.counter r.owner).windows - 1,
    (s.counter r.owner).pages⟩).counter b).windows = ownedCount (Table.remove s.dir.windows r.window) b
  rw [State.counter_setCounter]
  by_cases he : r.owner = b
  · subst he
    rw [if_pos rfl] at hb ⊢
    simp only [hb, Nat.add_sub_cancel]
  · rw [if_neg he, Nat.add_zero] at hb
    rw [if_neg fun e => he (Holder.code_injective e).symm]
    exact hb

/-- Whatever a command or an event does keeps each window count the number of windows owned. -/
theorem CountersHeld.effect (h : CountersHeld s) (hs : TablesCanonical s) (he : DataEffect c s t) :
    CountersHeld t := by
  obtain ⟨ht, -⟩ := he.tables hs
  obtain ⟨hr, -⟩ := hs
  cases he with
  | steady hst => exact h.keeps hst.toKeepsData hr ht
  | granted _ _ _ hk => exact h.keeps hk hr ht
  | firstScrubbed _ _ _ hk => exact h.keeps hk hr ht
  | opened i a x hx hst =>
    exact (h.opened hx).keeps hst.toKeepsData (Table.rising_put _ _ _ hr) ht
  | discharged a n _ hst => exact (h.discharged a n).keeps hst.toKeepsData hr ht
  | taken k w cause _ hw hst =>
    refine CountersHeld.keeps (s := { s with retire.state := .sweeping (w.retireRecord k cause) })
      ⟨h.1, fun r e => ?_⟩ hst.toKeepsData hr ht
    cases e
    exact congrArg (Option.map Window.owner) hw
  | freed r hf hst => exact (h.freed hr hf).keeps hst.toKeepsData (Table.rising_filter _ _ hr) ht
  | quotaSet x _ _ _ hst =>
    exact CountersHeld.keeps (s := { s with policy := x }) h hst.toKeepsData hr ht
  | locked hst =>
    exact CountersHeld.keeps (s := { s with policy.phase := .running }) h hst.toKeepsData hr ht
  | scrubEnded _ hst =>
    exact CountersHeld.keeps (s := { s with policy.phase := .configuring }) h hst.toKeepsData hr ht
  | reset => exact ⟨fun _ => rfl, fun _ e => nomatch e⟩

/-- Settles O54: a counter rises with a window opened alone, which the quota allows and the table counts; a
quota changes only while nothing is charged. -/
theorem quotasStayRespected : Obligations.QuotasStayRespected := by
  constructor
  · rintro s t ⟨hp, hq⟩ h
    obtain ⟨rest, hphase⟩ := step_effect h
    obtain ⟨c, rest', he⟩ := step_dataEffect h
    exact ⟨PhaseCoherent.effect (s := { s with pending := rest }) hp hphase,
      QuotasRespected.effect (s := { s with pending := rest' }) hq hp he⟩
  · rintro s t ⟨hs, hc⟩ h
    obtain ⟨c, rest, he⟩ := step_dataEffect h
    exact CountersHeld.effect (s := { s with pending := rest }) hc hs he

end Sys2Proof.Machine
end

section
/-! SUPPORT. The arbiter (R113): a request waits for its grant, and the round robin brings each waiting
requester nearer with every grant to another.
-/

namespace Sys2Proof.Machine

variable {s t : State} {c : Instr}

/-! ### What waits -/

/-- What waits at the arbiter waits still, or has been granted (R113). -/
theorem DataEffect.waits_or_granted (he : DataEffect c s t) {r : Requester} (hr : s.requests r = true)
    (hreset : ∀ levels flips, c ≠ .deviceReset levels flips) :
    t.requests r = true ∨ (s.nextGrant = some r ∧ r.grantedBy c ∧ t.lastGranted = r) := by
  cases he with
  | steady hst => exact .inl (hst.requests r hr)
  | granted g hn hc _ hl hothers =>
    by_cases hg : r = g
    · subst hg
      exact .inr ⟨hn, hc, hl⟩
    · exact .inl (hothers r hg hr)
  | firstScrubbed _ _ _ _ _ hall => exact .inl (hall r hr)
  | opened _ _ _ _ hst => exact .inl (hst.requests r hr)
  | discharged _ _ _ hst => exact .inl (hst.requests r hr)
  | taken _ _ _ hs _ hst =>
    exact .inl (hst.requests r
      (requests_withRetireState (by simp [RetireEngine.requests, hs]) _ hr))
  | freed x hs hst =>
    have hidle : s.retire.requests = false := by simp [RetireEngine.requests, hs]
    exact .inl (hst.requests r (requests_withRetireState (s := s.freeEntry x) hidle _ hr))
  | quotaSet _ _ _ _ hst => exact .inl (hst.requests r hr)
  | locked hst => exact .inl (hst.requests r hr)
  | scrubEnded _ hst => exact .inl (hst.requests r hr)
  | reset levels flips _ hc => exact absurd hc (hreset levels flips)

/-- Settles O18: no effect but a grant of the requester itself ends its wait. -/
theorem requestsWaitForGrant : Obligations.RequestsWaitForGrant := fun _ _ _ _ h hr hreset =>
  (exec_dataEffect h).waits_or_granted hr hreset

/-! ### The round robin -/

/-- The requester granted last changes to the one that was next, or to the Retire Engine with the first
request of the start-up (R113, R170). -/
theorem DataEffect.lastGranted (he : DataEffect c s t)
    (hreset : ∀ levels flips, c ≠ .deviceReset levels flips) :
    t.lastGranted = s.lastGranted ∨ s.nextGrant = some t.lastGranted
      ∨ (c = .startupScrubGrant ∧ t.lastGranted = .retireEngine
          ∧ ∃ page, s.retire.state = .startUp page .toRequest) := by
  cases he with
  | steady hst => exact .inl hst.lastGranted
  | granted g hn _ _ hl => exact .inr (.inl (hl ▸ hn))
  | firstScrubbed page hc hs _ hl => exact .inr (.inr ⟨hc, hl, page, hs⟩)
  | opened _ _ _ _ hst => exact .inl hst.lastGranted
  | discharged _ _ _ hst => exact .inl hst.lastGranted
  | taken _ _ _ _ _ hst => exact .inl hst.lastGranted
  | freed _ _ hst => exact .inl hst.lastGranted
  | quotaSet _ _ _ _ hst => exact .inl hst.lastGranted
  | locked hst => exact .inl hst.lastGranted
  | scrubEnded _ hst => exact .inl hst.lastGranted
  | reset levels flips _ hc => exact absurd hc (hreset levels flips)

/-- The place of a requester in the cyclic order: P-port, N-port, A-port, Move Engine, Retire Engine. -/
def Requester.place : Requester → Nat
  | .port .pPort => 0
  | .port .nPort => 1
  | .port .aPort => 2
  | .moveEngine => 3
  | .retireEngine => 4

theorem Requester.place_lt (r : Requester) : r.place < 5 := by
  rcases r with (_ | _ | _) | _ | _ <;> decide

theorem Requester.place_injective {q r : Requester} (h : q.place = r.place) : q = r := by
  rcases q with (_ | _ | _) | _ | _ <;> rcases r with (_ | _ | _) | _ | _ <;> cases h <;> rfl

/-- A requester comes in the search after as many others as its place is beyond that of the one granted
last (R113). -/
theorem Requester.idxOf_searchOrder (g r : Requester) :
    g.searchOrder.idxOf r = (r.place + 4 - g.place) % 5 := by
  rcases g with (_ | _ | _) | _ | _ <;> rcases r with (_ | _ | _) | _ | _ <;> decide

theorem Requester.idxOf_searchOrder_le (g r : Requester) : g.searchOrder.idxOf r ≤ 4 := by
  rw [Requester.idxOf_searchOrder]
  omega

theorem Requester.mem_searchOrder (g r : Requester) : r ∈ g.searchOrder := by
  have hlen : g.searchOrder.length = 5 := by rcases g with (_ | _ | _) | _ | _ <;> rfl
  have hle := g.idxOf_searchOrder_le r
  exact List.idxOf_lt_length_iff.1 (by omega)

/-- A requester that comes after `g` in one search comes nearer in the search that begins after `g`. -/
theorem Requester.nearer_after_grant {l g r : Requester} (hne : g ≠ r)
    (h : l.searchOrder.idxOf g ≤ l.searchOrder.idxOf r) :
    g.searchOrder.idxOf r < l.searchOrder.idxOf r := by
  have hplace : g.place ≠ r.place := fun e => hne (Requester.place_injective e)
  have hl := l.place_lt
  have hg := g.place_lt
  have hr := r.place_lt
  simp only [Requester.idxOf_searchOrder] at h ⊢
  omega

/-- What a search finds comes no later than anything that it looks for. -/
theorem idxOf_le_of_find? {α : Type} [DecidableEq α] {p : α → Bool} {l : List α} {a b : α}
    (h : l.find? p = some a) (hb : p b = true) : l.idxOf a ≤ l.idxOf b := by
  obtain ⟨ha, as, bs, rfl, has⟩ := List.find?_eq_some_iff_append.1 h
  have hnot {x : α} (hx : p x = true) : x ∉ as := fun hm => by simpa [hx] using has x hm
  rw [List.idxOf_append_of_notMem (hnot ha), List.idxOf_append_of_notMem (hnot hb),
    List.idxOf_cons_self]
  exact Nat.le_add_right _ _

/-- While a requester waits the arbiter has one to grant (R113). -/
theorem exists_nextGrant {r : Requester} (hr : s.requests r = true) :
    ∃ g, s.nextGrant = some g ∧ s.requests g = true := by
  have hsome : (s.lastGranted.searchOrder.find? s.requests).isSome = true :=
    List.find?_isSome.2 ⟨r, s.lastGranted.mem_searchOrder r, hr⟩
  obtain ⟨g, hg⟩ := Option.isSome_iff_exists.1 hsome
  exact ⟨g, hg, List.find?_some hg⟩

/-- Settles O19: the one granted comes first of those that wait, and the next search begins after it. -/
theorem roundRobinBounded : Obligations.RoundRobinBounded := by
  refine ⟨fun s r hr => ⟨Requester.idxOf_searchOrder_le _ r, exists_nextGrant hr, fun g hg hne => ?_⟩,
    fun c s t h hreset => (exec_dataEffect h).lastGranted hreset⟩
  exact Requester.nearer_after_grant hne (idxOf_le_of_find? hg hr)

end Sys2Proof.Machine
end

section
/-! SUPPORT. The words that a range touches and merges, and what a word with no, one or two bits in error
delivers (R99 to R101).
-/

namespace Sys2Proof.Machine

variable {m : Memory} {k : Nat}

/-! ### Words of a range -/

theorem nodup_touchedWords (a n : Nat) : (touchedWords a n).Nodup := by
  unfold touchedWords
  split
  · exact List.nodup_nil
  · exact List.nodup_range.map fun _ _ h => Nat.add_left_cancel h

/-- A word is not covered where one of its bytes lies outside the range (R101). -/
theorem wordCovered_eq_false_iff (a n k : Nat) :
    wordCovered a n k = false ↔ ∃ x, x / 8 = k ∧ ¬(a ≤ x ∧ x < a + n) := by
  rw [Bool.eq_false_iff, Ne, wordCovered, Bool.and_eq_true, decide_eq_true_iff, decide_eq_true_iff]
  constructor
  · intro h
    by_cases hlow : a ≤ 8 * k
    · exact ⟨8 * k + 7, by omega, by omega⟩
    · exact ⟨8 * k, by omega, by omega⟩
  · rintro ⟨x, rfl, hx⟩ h
    omega

theorem mem_mergedWords_iff (a n k : Nat) : k ∈ mergedWords a n ↔ PartlyIn a n k := by
  rw [mergedWords, List.mem_filter, mem_touchedWords_iff, Bool.not_eq_true',
    wordCovered_eq_false_iff]
  rfl

/-! ### Words with bits in error -/

theorem flipByte_flipByte (x : Byte) (j : Nat) : flipByte (flipByte x j) j = x := by
  rw [flipByte, flipByte, BitVec.xor_assoc, BitVec.xor_self, BitVec.xor_zero]

/-- A bit turned over in a word of exchange memory is in the word's disturbed bits (R100). -/
theorem Memory.disturbed_disturbBit_same (hk : k < Config.wordTotal) (b : Nat) :
    (m.disturbBit ⟨k, b⟩).disturbed k = toggleBit b (m.disturbed k) := by
  rw [Memory.disturbed_disturbBit]
  exact if_pos ⟨hk, rfl⟩

/-- One disturbed bit is located (R100). -/
theorem Memory.judge_one {b : Nat} (h : m.disturbed k = [b]) : m.judge k = .corrected b := by
  simp only [Memory.judge, h]

/-- Two disturbed bits are found and not located (R100). -/
theorem Memory.judge_two {b c : Nat} (h : m.disturbed k = [b, c]) : m.judge k = .uncorrectable := by
  simp only [Memory.judge, h]

/-- An uncorrectable word is delivered as zeros (R53, R101). -/
theorem Memory.delivered_uncorrectable {x : Nat} (h : m.judge (x / 8) = .uncorrectable) :
    m.delivered x = 0#8 := by
  simp [Memory.delivered, Memory.isUncorrectable, h]

/-- A corrected word is delivered with the located bit restored (R100). -/
theorem Memory.delivered_corrected {x b : Nat} (h : m.judge (x / 8) = .corrected b) :
    m.delivered x = if b < 64 ∧ b / 8 = x % 8 then flipByte (m.byte x) (b % 8) else m.byte x := by
  simp only [Memory.delivered, Memory.isUncorrectable, Memory.handed, h, Nat.div_add_mod]
  simp

/-- One bit of a clean word turned over is restored to the reader, whichever it is (R100). -/
theorem Memory.delivered_disturbBit (hk : k < Config.wordTotal) (h : m.disturbed k = []) (b : Nat)
    {x : Nat} (hx : x / 8 = k) : (m.disturbBit ⟨k, b⟩).delivered x = m.byte x := by
  have hone : (m.disturbBit ⟨k, b⟩).disturbed (x / 8) = [b] := by
    rw [hx, Memory.disturbed_disturbBit_same hk, h]
    rfl
  rw [Memory.delivered_corrected (Memory.judge_one hone), Memory.byte_disturbBit]
  by_cases hb : b < 64 ∧ b / 8 = x % 8
  · rw [if_pos hb, if_pos ⟨hk, hb.1, by simp only; omega⟩, flipByte_flipByte]
  · rw [if_neg hb, if_neg]
    rintro ⟨-, hlt, he⟩
    simp only at hlt he
    exact hb ⟨hlt, by omega⟩

/-- Two different bits of a clean word turned over are two disturbed bits, in rising order. -/
theorem toggleBit_pair {b c : Nat} (h : b ≠ c) : toggleBit c [b] = [c, b] ∨ toggleBit c [b] = [b, c] := by
  by_cases hlt : c < b
  · exact .inl (by simp [toggleBit, hlt])
  · exact .inr (by simp [toggleBit, hlt, h.symm])

theorem Memory.judge_disturb_two (hk : k < Config.wordTotal) (h : m.disturbed k = []) {b c : Nat}
    (hne : b ≠ c) : (m.disturb [⟨k, b⟩, ⟨k, c⟩]).judge k = .uncorrectable := by
  have htwo : (m.disturb [⟨k, b⟩, ⟨k, c⟩]).disturbed k = toggleBit c [b] := by
    change ((m.disturbBit ⟨k, b⟩).disturbBit ⟨k, c⟩).disturbed k = _
    rw [Memory.disturbed_disturbBit_same hk, Memory.disturbed_disturbBit_same hk, h]
    rfl
  rcases toggleBit_pair hne with e | e <;> exact Memory.judge_two (htwo.trans e)

/-- Settles O17: a range touches the words from that of its first byte to that of its last, one bit turned
over is turned back, and two are only found. -/
theorem wordsTouchedAndJudged : Obligations.WordsTouchedAndJudged := by
  refine ⟨fun a n k => ⟨mem_touchedWords_iff a n k, mem_mergedWords_iff a n k, nodup_touchedWords a n,
    (nodup_touchedWords a n).filter _⟩, fun m k i b c hk hi h => ?_⟩
  have hword : (8 * k + i) / 8 = k := by omega
  have hone : (m.disturbBit ⟨k, b⟩).disturbed k = [b] := by
    rw [Memory.disturbed_disturbBit_same hk, h]
    rfl
  refine ⟨Memory.judge_clean h, Memory.delivered_clean (hword.symm ▸ h), Memory.judge_one hone,
    Memory.delivered_disturbBit hk h b hword, fun hne => ?_⟩
  have htwo := Memory.judge_disturb_two hk h hne
  exact ⟨htwo, Memory.delivered_uncorrectable (hword.symm ▸ htwo)⟩

end Sys2Proof.Machine
end

section
/-! SUPPORT. The placement of the banks of a new window (R105 to R108).
-/

namespace Sys2Proof.Machine

/-- A run of pages is not free where one of its pages is not. -/
theorem not_allFree_iff (free : Nat → Bool) (f n : Nat) :
    (!(List.range n).all fun i => free (f + i)) = true ↔ ∃ j < n, free (f + j) = false := by
  simp [List.all_eq_false]

/-- The first fit is the lowest first page of a run of free pages inside the bounds (R107). -/
theorem firstFit_eq_some_iff (free : Nat → Bool) (lo hi n f : Nat) :
    firstFit free lo hi n = some f
      ↔ (lo ≤ f ∧ f + n ≤ hi ∧ ∀ j < n, free (f + j) = true)
        ∧ ∀ g, lo ≤ g → g < f → ∃ j < n, free (g + j) = false := by
  rw [firstFit, List.find?_map, Option.map_eq_some_iff]
  simp only [List.find?_range_eq_some, Function.comp_apply, List.mem_range, List.all_eq_true,
    not_allFree_iff]
  constructor
  · rintro ⟨i, ⟨hfree, hi, hbefore⟩, rfl⟩
    refine ⟨⟨by omega, by omega, hfree⟩, fun g hlo hlt => ?_⟩
    obtain ⟨j, hj, hg⟩ := hbefore (g - lo) (by omega)
    exact ⟨j, hj, by rwa [Nat.add_sub_cancel' hlo] at hg⟩
  · rintro ⟨⟨hlo, hhi, hfree⟩, hbefore⟩
    refine ⟨f - lo, ⟨?_, by omega, fun i hi => hbefore (lo + i) (by omega) (by omega)⟩, by omega⟩
    rwa [Nat.add_sub_cancel' hlo]

/-- Settles O20: each part is what the search does, which tries the first pages of a pool in rising order. -/
theorem placementIsFirstFit : Obligations.PlacementIsFirstFit := by
  refine ⟨fun _ _ => ⟨rfl, rfl, rfl⟩, firstFit_eq_some_iff, fun free lo hi n rest => ?_, fun _ _ => rfl,
    fun s h n0 c1 hnone => ?_, fun s h n0 n1 f0 hf => ?_⟩
  · simp only [searchPools, List.findSome?_cons]
    cases firstFit free lo hi n <;> rfl
  · simp only [State.place, hnone]
  · simp only [State.place, hf, and_self]

end Sys2Proof.Machine
end

section
/-! SUPPORT. The end of a move (R20, R72, R84, R127, R128): the quiet points of the windows that it releases,
in their order, and what it leaves of the part.
-/

namespace Sys2Proof.Machine

variable {s t : State} {r : MoveRequest}

/-! ### The quiet points of several windows -/

/-- The notices of a quiet point see nothing of the part but the View Table (R66). -/
theorem settledNotices_congr (h : t.dir.views = s.dir.views) (k : Nat) (w : Window) :
    settledNotices t k w = settledNotices s k w := by
  simp only [settledNotices, exchangeNotices, h]

theorem views_quietPoint (s : State) (k : Nat) : (s.quietPoint k).dir.views = s.dir.views := by
  rcases hw : s.window? k with _ | w
  · rw [State.quietPoint_eq, hw]
  · obtain ⟨ns, h | h⟩ := State.quietPoint_eq_putQueued hw <;> rw [h]
    rfl

/-- The quiet points of distinct windows, each as it stood before them: those that are DRAINING and quiet
join the Retire Queue in the order given, and the notices are posted in that order (R72, R84). -/
theorem settleAll_eq {ks : List Nat} (hnd : ks.Nodup) (s : State) :
    (s.settleAll ks).retire.queue
        = s.retire.queue ++ ks.filter (fun k => (s.window? k).any Window.joinsQueue)
      ∧ (s.settleAll ks).ports
        = (ks.flatMap fun k => ((s.window? k).map (settledNotices s k)).getD []).foldl Ports.post
            s.ports := by
  unfold State.settleAll
  induction ks generalizing s with
  | nil => simp
  | cons k ks ih =>
    obtain ⟨hk, hnd⟩ := List.nodup_cons.1 hnd
    have hother : ∀ j ∈ ks, (s.quietPoint k).window? j = s.window? j := fun j hj => by
      rw [State.window?_quietPoint, if_neg]
      rintro rfl
      exact hk hj
    obtain ⟨hqueue, hports⟩ := ih hnd (s.quietPoint k)
    rw [List.foldl_cons, hqueue, hports]
    constructor
    · have hfilter : ks.filter (fun j => ((s.quietPoint k).window? j).any Window.joinsQueue)
          = ks.filter fun j => (s.window? j).any Window.joinsQueue :=
        List.filter_congr fun j hj => by rw [hother j hj]
      rw [hfilter, State.queue_quietPoint, List.append_assoc, List.filter_cons]
      rcases (s.window? k).any Window.joinsQueue <;> rfl
    · have hnotices : (ks.flatMap fun j =>
            (((s.quietPoint k).window? j).map (settledNotices (s.quietPoint k) j)).getD [])
          = ks.flatMap fun j => ((s.window? j).map (settledNotices s j)).getD [] :=
        List.flatMap_congr fun j hj => by
          rw [hother j hj, funext (settledNotices_congr (views_quietPoint s k) j)]
      rw [hnotices, State.ports_quietPoint, List.flatMap_cons, List.foldl_append]

theorem unchangedBut_settleAll (ks : List Nat) (s : State) :
    UnchangedBut (fun x => x.isNotice ∨ (∃ k ∈ ks, x = .window k) ∨ x = .retireQueue) s
      (s.settleAll ks) := by
  unfold State.settleAll
  induction ks generalizing s with
  | nil => exact .refl _ s
  | cons k ks ih =>
    refine (unchangedBut_quietPoint s k).trans (ih _) ?_ ?_
    · exact fun _ h => h.imp_right fun h => h.imp_left fun h => ⟨k, List.mem_cons_self .., h⟩
    · exact fun _ h => h.imp_right fun h => h.imp_left fun ⟨j, hj, h⟩ =>
        ⟨j, List.mem_cons_of_mem _ hj, h⟩

/-! ### The source damaged and the pins released -/

/-- The notice of an uncorrectable source word (R20, R127). -/
def moveDamage (s : State) (r : MoveRequest) (dataError : Bool) : List Notice :=
  if dataError then
    match r.resolved with
    | some x => ((s.window? x.srcWindow).map (damageNotices s x.srcWindow)).getD []
    | none => []
  else []

/-- MOVE_DONE, which a move with the reset mark posts only where it ended with OK (R127, R128). -/
def moveDoneNotices (s : State) (r : MoveRequest) (code : ResultCode) : List Notice :=
  if r.resetMark && !decide (code = .ok) then []
  else [Notice.moveDone r.requester r.reference code r.progress s.move.corrected]

theorem MoveRequest.nodup_releases (r : MoveRequest) : r.releases.Nodup := by
  unfold MoveRequest.releases
  split
  · exact List.nodup_nil
  · split
    · exact List.nodup_singleton _
    · rename_i h
      simpa using Ne.symm h

theorem MoveRequest.mem_releases {x : Resolved} (hx : r.resolved = some x) (k : Nat) :
    k ∈ r.releases ↔ k = x.srcWindow ∨ k = x.dstWindow := by
  simp only [MoveRequest.releases, hx]
  split
  · rename_i h
    simp [h]
  · simp

theorem unchangedBut_setDamaged (s : State) (k : Nat) :
    UnchangedBut (fun x => x.isNotice ∨ x = .window k) s (s.setDamaged k) := by
  rw [State.setDamaged_eq]
  split
  · exact .refl _ s
  · split
    · exact .refl _ s
    · exact (unchangedBut_putWindow s k _).trans (unchangedBut_postAll _ _) (fun _ => .inr) fun _ => .inl

theorem ports_setDamaged (s : State) (k : Nat) :
    (s.setDamaged k).ports
      = (((s.window? k).map (damageNotices s k)).getD []).foldl Ports.post s.ports := by
  rw [State.setDamaged_eq]
  split
  · simp_all
  · rename_i w h
    rw [h]
    split
    · rename_i hd
      simp [damageNotices, hd]
    · rfl

theorem unchangedBut_releasePin (s : State) (k : Nat) :
    UnchangedBut (· = .window k) s (s.releasePin k) := by
  unfold State.releasePin
  split
  · exact .refl _ s
  · exact unchangedBut_putWindow s k _

theorem ports_releasePin (s : State) (k : Nat) : (s.releasePin k).ports = s.ports := by
  unfold State.releasePin
  split <;> rfl

/-- A Move Engine is another one but for the places named; a place that no field mentions is as it was. -/
structure MoveEngine.SameBut (changed : Place → Prop) (x y : MoveEngine) : Prop where
  queue : changed .moveQueue ∨ y.queue = x.queue := by exact .inr rfl
  state : changed .moveState ∨ y.state = x.state := by exact .inr rfl
  corrected : changed .moveCorrected ∨ y.corrected = x.corrected := by exact .inr rfl
  pattern : ∀ j, changed (.patternByte j)
    ∨ Table.value 0#8 y.pattern j = Table.value 0#8 x.pattern j := by exact fun _ => .inr rfl

theorem unchangedBut_setMove {changed : Place → Prop} {m : MoveEngine}
    (h : MoveEngine.SameBut changed s.move m) : UnchangedBut changed s { s with move := m } := by
  intro p hp
  cases p
  case moveQueue => exact h.queue.resolve_left hp
  case moveState => exact h.state.resolve_left hp
  case moveCorrected => exact h.corrected.resolve_left hp
  case patternByte j => exact (h.pattern j).resolve_left hp
  case reserves => exact ⟨rfl, rfl⟩
  all_goals exact rfl

/-- The queue, the state and the corrected word count of the Move Engine written. -/
theorem unchangedBut_withMove (s : State) (queue : List MoveRequest) (x : MoveState) (n : Nat) :
    UnchangedBut (fun y => y = .moveQueue ∨ y = .moveState ∨ y = .moveCorrected) s
      { s with move := ⟨queue, x, n, s.move.pattern⟩ } :=
  unchangedBut_setMove
    { queue := .inl (.inl rfl), state := .inl (.inr (.inl rfl)), corrected := .inl (.inr (.inr rfl)) }

theorem views_setDamaged (s : State) (k : Nat) : (s.setDamaged k).dir.views = s.dir.views := by
  rw [State.setDamaged_eq]
  split
  · rfl
  · split <;> rfl

theorem views_releasePin (s : State) (k : Nat) : (s.releasePin k).dir.views = s.dir.views := by
  unfold State.releasePin
  split <;> rfl

theorem views_releaseHead (s : State) (r : MoveRequest) (dataError : Bool) :
    (s.releaseHead r dataError).dir.views = s.dir.views := by
  unfold State.releaseHead
  split
  · simp only [views_releasePin]
    split
    · exact views_setDamaged s _
    · rfl
  · rfl

theorem ports_releaseHead (s : State) (r : MoveRequest) (dataError : Bool) :
    (s.releaseHead r dataError).ports = (moveDamage s r dataError).foldl Ports.post s.ports := by
  unfold State.releaseHead moveDamage
  rcases r.resolved with _ | x
  · cases dataError <;> rfl
  · simp only [ports_releasePin]
    cases dataError
    · rfl
    · exact ports_setDamaged s x.srcWindow

theorem unchangedBut_releaseHead (s : State) (r : MoveRequest) (dataError : Bool) :
    UnchangedBut (fun x => x.isNotice ∨ (∃ k ∈ r.releases, x = .window k) ∨ x = .moveQueue
      ∨ x = .moveState ∨ x = .moveCorrected) s (s.releaseHead r dataError) := by
  rcases hx : r.resolved with _ | x
  · simp only [State.releaseHead, hx]
    exact (unchangedBut_withMove s _ _ _).mono fun _ h => .inr (.inr h)
  · have hmem := r.mem_releases hx
    have hdamaged : UnchangedBut (fun y => y.isNotice ∨ y = .window x.srcWindow) s
        (if dataError then s.setDamaged x.srcWindow else s) := by
      split
      · exact unchangedBut_setDamaged s _
      · exact .refl _ s
    have hpins : UnchangedBut (fun y => y.isNotice ∨ ∃ k ∈ r.releases, y = .window k) s
        (((if dataError then s.setDamaged x.srcWindow else s).releasePin x.srcWindow).releasePin
          x.dstWindow) := by
      refine (hdamaged.trans (unchangedBut_releasePin _ _) (fun _ => id) fun _ => .inr).trans
        (unchangedBut_releasePin _ _) ?_ ?_
      · exact fun _ h => h.imp_right fun h => ⟨_, (hmem _).2 (.inl rfl), h⟩
      · exact fun _ h => .inr ⟨_, (hmem _).2 (.inr rfl), h⟩
    have hpattern := congrArg MoveEngine.pattern (keepsWork_release s x dataError).move
    simp only [State.releaseHead, hx]
    rw [← hpattern]
    refine hpins.trans (unchangedBut_withMove _ _ _ _) ?_ ?_
    · exact fun _ h => h.imp_right .inl
    · exact fun _ h => .inr (.inr h)

/-! ### The end event -/

/-- The end of a move in its order: the release of its windows, their quiet points, and MOVE_DONE (R127). -/
theorem State.endMove_eq (s : State) (r : MoveRequest) (code : ResultCode) (dataError : Bool) :
    s.endMove r code dataError
      = ((s.releaseHead r dataError).settleAll r.releases).postAll (moveDoneNotices s r code) := by
  have hdone (u : State) (hp : u.move.pattern = s.move.pattern) :
      ({ (if r.resetMark && !decide (code = .ok) then u else u.post
          (Notice.moveDone r.requester r.reference code r.progress s.move.corrected)) with
        move.queue := s.move.queue.tail, move.state := .idle, move.corrected := 0 } : State)
      = ({ u with move := ⟨s.move.queue.tail, .idle, 0, s.move.pattern⟩ } : State).postAll
          (moveDoneNotices s r code) := by
    unfold moveDoneNotices
    rw [← hp]
    split <;> rfl
  rcases hx : r.resolved with _ | x
  · simp only [State.releaseHead, MoveRequest.releases, State.endMove, hx]
    exact hdone s rfl
  · simp only [State.releaseHead, MoveRequest.releases, State.endMove, hx, State.settleAll_withMove,
      State.releaseMove_eq]
    exact hdone _ (congrArg MoveEngine.pattern
      ((keepsWork_release s x dataError).trans (keepsWork_settleAll _ _)).move)

theorem moveEndNotices_eq (s : State) (r : MoveRequest) (code : ResultCode) (dataError : Bool) :
    moveEndNotices s r code dataError
      = moveDamage s r dataError
        ++ (r.releases.flatMap fun k =>
              ((s.releasedAt r dataError k).map (settledNotices s k)).getD [])
        ++ moveDoneNotices s r code := rfl

theorem ports_endMove (s : State) (r : MoveRequest) (code : ResultCode) (dataError : Bool) :
    (s.endMove r code dataError).ports
      = (moveEndNotices s r code dataError).foldl Ports.post s.ports := by
  have hsettled : (r.releases.flatMap fun k => (((s.releaseHead r dataError).window? k).map
        (settledNotices (s.releaseHead r dataError) k)).getD [])
      = r.releases.flatMap fun k =>
          ((s.releasedAt r dataError k).map (settledNotices s k)).getD [] :=
    List.flatMap_congr fun k hk => by
      rw [State.window?_releaseHead, if_pos hk,
        funext (settledNotices_congr (views_releaseHead s r dataError) k)]
  obtain ⟨-, hports⟩ := settleAll_eq r.nodup_releases (s.releaseHead r dataError)
  rw [hsettled, ports_releaseHead] at hports
  rw [State.endMove_eq, moveEndNotices_eq, List.foldl_append, List.foldl_append, ← hports]
  rfl

theorem unchangedBut_endMove (s : State) (r : MoveRequest) (code : ResultCode) (dataError : Bool) :
    UnchangedBut (fun x => x.isNotice ∨ (∃ k ∈ r.releases, x = .window k) ∨ x = .retireQueue
      ∨ x = .moveQueue ∨ x = .moveState ∨ x = .moveCorrected) s (s.endMove r code dataError) := by
  rw [State.endMove_eq]
  refine ((unchangedBut_releaseHead s r dataError).trans
    (r := fun x => x.isNotice ∨ (∃ k ∈ r.releases, x = .window k) ∨ x = .retireQueue
      ∨ x = .moveQueue ∨ x = .moveState ∨ x = .moveCorrected)
    (unchangedBut_settleAll r.releases _) ?_ ?_).trans (unchangedBut_postAll _ _) (fun _ => id)
    fun _ => .inl
  · exact fun _ h => h.imp_right fun h => h.imp_right .inr
  · exact fun _ h => h.imp_right fun h => h.imp_right .inl

/-- The end event leaves what R127 lists. -/
theorem moveEnded_endMove (s : State) (r : MoveRequest) (code : ResultCode) (dataError : Bool) :
    MoveEnded s (s.endMove r code dataError) r code dataError := by
  have hsame := sameWork_endMove s r code dataError
  refine ⟨rfl, rfl, rfl, fun k hk => ?_, ?_, fun i => ?_, unchangedBut_endMove s r code dataError⟩
  · rw [hsame.window, State.window?_settleAll, if_pos hk, State.window?_releaseHead, if_pos hk]
  · obtain ⟨hqueue, -⟩ := settleAll_eq r.nodup_releases (s.releaseHead r dataError)
    rw [hsame.retire, hqueue, State.releaseHead_retire]
    refine congrArg _ (List.filter_congr fun k hk => ?_)
    rw [State.window?_releaseHead, if_pos hk]
  · rw [State.port, ports_endMove]
    exact ⟨rfl, rfl⟩

/-- Settles O44: the engine at the end of a move ends it with the code of its state. -/
theorem moveEndReleases : Obligations.MoveEndReleases := by
  intro s r rest hq
  refine ⟨fun hs => ⟨_, ?_, moveEnded_endMove s r .ok false⟩,
    fun hs => ⟨_, ?_, moveEnded_endMove s r .dataError true⟩⟩
  · change execMoveEnd s = _
    simp [execMoveEnd, State.moveHead, hs, hq]
  · change execMoveEnd s = _
    simp [execMoveEnd, State.moveHead, hs, hq]

end Sys2Proof.Machine
end

section
/-! SUPPORT. MOVE from its checks, set beside the manual's list, to the taking of its request by the idle
engine (R118 to R120).
-/

namespace Sys2Proof.Machine

variable {s : State} {i : PortId} {a : MoveParams} {r : MoveRequest}

/-! ### One side of a move -/

/-- The view of a side and the LIVE window behind it, the view looked up before (R118 check 4, R121
check 2). -/
def State.liveBehind (s : State) (v : Option View) : Except ResultCode (View × Window) := do
  let v ← found v .stale
  let w ← s.liveWindow v.window
  return (v, w)

theorem liveBehind_eq_ok {v : Option View} {x : View × Window} :
    s.liveBehind v = .ok x ↔ v = some x.1 ∧ s.window? x.1.window = some x.2 ∧ x.2.isLive = true := by
  simp only [State.liveBehind, Checks.bind_eq_ok, found_eq_ok, liveWindow_eq_ok, Checks.pure_eq,
    Except.ok.injEq]
  constructor
  · rintro ⟨v, hv, w, hw, rfl⟩
    exact ⟨hv, hw⟩
  · rintro ⟨hv, hw⟩
    exact ⟨x.1, hv, x.2, hw, rfl⟩

/-- The two lookups of a side are one. -/
theorem found_liveWindow {β : Type} (v : Option View) (f : View → Window → Except ResultCode β) :
    (do
      let v ← found v .stale
      let w ← s.liveWindow v.window
      f v w) = s.liveBehind v >>= fun x => f x.1 x.2 := by
  rcases v with _ | v
  · rfl
  · simp only [State.liveBehind, found_some, Checks.ok_bind]
    rcases s.liveWindow v.window with _ | w <;> rfl

theorem mirrors_liveBehind (s : State) (v : Option View) :
    Mirrors [(notLive (s.behind v), .stale)] (s.liveBehind v) := by
  rcases v with _ | v
  · rfl
  · rw [State.liveBehind, found_some, Checks.ok_bind]
    exact (mirrors_liveWindow s v).cons (m := []) fun _ _ => rfl

/-- A lookup and a condition on what it finds are one check (R118, R121, R125). -/
theorem Mirrors.found_require {α β : Type} {o : Option α} {p : α → Bool} {code : ResultCode}
    {m : List (Bool × ResultCode)} {f : α → Except ResultCode β}
    (hf : ∀ x, o = some x → Mirrors m (f x)) :
    Mirrors ((!(o.any p), code) :: m) (found o code >>= fun x => require (p x) code >>= fun _ => f x) := by
  rcases o with _ | x
  · rfl
  · rw [found_some, Checks.ok_bind]
    exact .cons (mirrors_require rfl) fun _ _ => hf x rfl

/-- A right of each side is missing, or SWAP where it names SHADOW (R118 check 5, R121 check 3, R125). -/
theorem sidesRefused_eq (sr dr : Bool) (sq dq : Rights) (srcShadow dstShadow : Bool) :
    (!sr || !dr || (srcShadow && !sq.swap) || (dstShadow && !dq.swap))
      = !(sideRights sr sq srcShadow && sideRights dr dq dstShadow) := by
  unfold sideRights
  generalize sq.swap = p
  generalize dq.swap = q
  revert sr dr srcShadow dstShadow p q
  decide

/-- The fill unit does not divide the count (R118 check 7, R121 check 4). -/
def MoveMode.fillMisaligned (m : MoveMode) (count : Nat) : Bool :=
  match m with
  | .fill unit => !decide (unit ∣ count)
  | .copy => false
  | .descend => false

/-- The alignment of the two sides and of the fill unit (R118 check 7, R121 check 4). -/
theorem misaligned_eq (m : MoveMode) (srcUnit dstUnit srcOffset dstOffset count : Nat) :
    (!decide (srcUnit ∣ srcOffset ∧ srcUnit ∣ m.sourceSpan count)
        || !decide (dstUnit ∣ dstOffset ∧ dstUnit ∣ count)
        || m.fillMisaligned count)
      = !m.aligned srcUnit dstUnit srcOffset dstOffset count := by
  rw [Bool.eq_iff_iff]
  cases m <;> simp [MoveMode.aligned, MoveMode.fillMisaligned] <;> tauto

/-! ### MOVE -/

theorem BankName.ofByte?_eq_some {b : Byte} {n : BankName} (h : BankName.ofByte? b = some n) :
    n = bankWord b := by
  unfold BankName.ofByte? at h
  unfold bankWord
  split_ifs at h ⊢ <;> cases h <;> rfl

/-- The bank that a bank parameter addresses is that of its word (R6, R64). -/
theorem Window.addressed_bank (w : Window) (bank : Byte) :
    (w.addressed bank).map Prod.snd
      = (BankName.ofByte? bank).bind fun n => (w.resolve n).bind w.bank? := by
  by_cases h0 : bank = 0x00#8
  · subst h0
    rcases hb : w.bank? w.live with _ | b <;>
      simp [BankName.ofByte?, Window.resolve, Window.addressed, hb]
  · by_cases h1 : bank = 0x01#8
    · subst h1
      rcases h2 : w.bank1 with _ | b1
      · simp [BankName.ofByte?, Window.resolve, Window.addressed, h2]
      · rcases hb : w.bank? w.live.other with _ | b <;>
          simp [BankName.ofByte?, Window.resolve, Window.addressed, h2, hb]
    · simp [BankName.ofByte?, Window.addressed, h0, h1]

theorem Window.addressed_isNone (w : Window) (bank : Byte) :
    (w.addressed bank).isNone
      = ((BankName.ofByte? bank).isNone || ((w.resolve (bankWord bank)).bind w.bank?).isNone) := by
  rw [← Option.isNone_map (f := Prod.snd), Window.addressed_bank]
  rcases hn : BankName.ofByte? bank with _ | n
  · rfl
  · rw [BankName.ofByte?_eq_some hn, Option.bind_some]
    rfl

theorem Window.any_addressed (w : Window) (bank : Byte) (p : Bank → Bool) :
    ((w.addressed bank).any fun b => p b.2)
      = ((BankName.ofByte? bank).bind fun n => (w.resolve n).bind w.bank?).any p := by
  rw [← Window.addressed_bank, Option.any_map]

/-- The mode or the fill unit is out of range (R118 check 6). -/
theorem MoveMode.ofBytes?_isNone (mode fillUnit : Byte) :
    (MoveMode.ofBytes? mode fillUnit).isNone
      = (!([0x00#8, 0x01#8, 0x02#8].contains mode)
          || (decide (mode = 0x01#8) && !([1#8, 2#8, 4#8, 8#8].contains fillUnit))) := by
  unfold MoveMode.ofBytes?
  by_cases h0 : mode = 0x00#8
  · simp [h0]
  · by_cases h1 : mode = 0x01#8
    · subst h1
      by_cases hu : fillUnit = 1#8 ∨ fillUnit = 2#8 ∨ fillUnit = 4#8 ∨ fillUnit = 8#8 <;> simp [hu]
    · by_cases h2 : mode = 0x02#8 <;> simp [h0, h1, h2]

/-- The arguments of MOVE that are out of range, in the order in which they are looked up (R118
check 6). -/
theorem moveArgs_eq (a : MoveParams) (sw dw : Window) :
    ((sw.addressed a.srcBank).isNone || (dw.addressed a.dstBank).isNone
        || !([0x00#8, 0x01#8, 0x02#8].contains a.mode)
        || (decide (a.mode = 0x01#8) && !([1#8, 2#8, 4#8, 8#8].contains a.fillUnit))
        || decide (a.count.toNat = 0) || decide (65536 < a.count.toNat))
      = ((BankName.ofByte? a.srcBank).isNone || ((BankName.ofByte? a.dstBank).isNone
          || ((MoveMode.ofBytes? a.mode a.fillUnit).isNone
          || (!(decide (1 ≤ a.count.toNat) && decide (a.count.toNat ≤ 65536))
          || (((sw.resolve (bankWord a.srcBank)).bind sw.bank?).isNone
          || ((dw.resolve (bankWord a.dstBank)).bind dw.bank?).isNone))))) := by
  have hcount : (!(decide (1 ≤ a.count.toNat) && decide (a.count.toNat ≤ 65536)))
      = (decide (a.count.toNat = 0) || decide (65536 < a.count.toNat)) := by
    simp [← decide_not]
  rw [Window.addressed_isNone, Window.addressed_isNone, MoveMode.ofBytes?_isNone, hcount]
  ac_rfl

/-- The source span and the fill unit of a mode, as the statements read them from its bytes (R118). -/
theorem MoveMode.ofBytes?_eq_some {m : MoveMode}
    (h : MoveMode.ofBytes? a.mode a.fillUnit = some m) :
    moveSpan a = m.sourceSpan a.count.toNat
      ∧ (decide (a.mode = 0x01#8) && !decide (a.fillUnit.toNat ∣ a.count.toNat))
        = m.fillMisaligned a.count.toNat := by
  unfold MoveMode.ofBytes? at h
  unfold moveSpan
  split_ifs at h with h0 h1 hu h2 <;> cases h
  · simp [h0, MoveMode.sourceSpan, MoveMode.fillMisaligned]
  · simp [h1, MoveMode.sourceSpan, MoveMode.fillMisaligned]
  · simp [h2, MoveMode.sourceSpan, MoveMode.fillMisaligned]

/-- MOVE refuses as the manual lists it (R118). -/
theorem mirrors_checkMove (i : PortId) (a : MoveParams) (s : State) :
    Mirrors (moveChecks i a s) (checkMove i a s) := by
  refine .cons (mirrors_require rfl) fun _ _ => .cons (mirrors_require ?_) fun _ _ =>
    .cons (mirrors_require ?_) fun _ _ => ?_
  · simp
  · simp [← decide_not]
  rw [found_liveWindow]
  refine .or_cons (mirrors_liveBehind s _) fun sx hsx => ?_
  obtain ⟨hsv, hsw, -⟩ := liveBehind_eq_ok.1 hsx
  rw [found_liveWindow]
  refine .cons (mirrors_liveBehind s _) fun dx hdx => ?_
  obtain ⟨hdv, hdw, -⟩ := liveBehind_eq_ok.1 hdx
  simp only [State.viewAt, hsv, hdv, State.behind, Option.bind_some, hsw, hdw, Option.any_some]
  refine .cons (mirrors_require (sidesRefused_eq ..)) fun _ _ => ?_
  rw [moveArgs_eq]
  refine .or_cons (mirrors_found rfl) fun srcName hsrc => .or_cons (mirrors_found rfl) fun dstName hdst =>
    .or_cons (mirrors_found rfl) fun mode hmode => .or_cons (mirrors_require rfl) fun _ _ => ?_
  have hsn := found_eq_ok.1 hsrc
  have hdn := found_eq_ok.1 hdst
  obtain ⟨hspan, hfill⟩ := MoveMode.ofBytes?_eq_some (found_eq_ok.1 hmode)
  rw [← BankName.ofByte?_eq_some hsn, ← BankName.ofByte?_eq_some hdn, hspan, hfill, misaligned_eq,
    Window.any_addressed _ _ fun b => decide (a.srcOffset.toNat + mode.sourceSpan a.count.toNat ≤ b.limit),
    Window.any_addressed _ _ fun b => decide (a.dstOffset.toNat + a.count.toNat ≤ b.limit), hsn, hdn]
  simp only [Option.bind_some]
  refine .or_cons (mirrors_found rfl) fun srcBank hsb => .cons (mirrors_found rfl) fun dstBank hdb =>
    .cons (mirrors_require rfl) fun _ _ => .cons (mirrors_require ?_) fun _ _ =>
    .cons (mirrors_require (Bool.not_not _).symm) fun _ _ => .cons (mirrors_require ?_) fun _ _ => rfl
  · simp [found_eq_ok.1 hsb, found_eq_ok.1 hdb]
  · rw [Bool.not_and]
    exact congrArg₂ or (not_decide_lt ..) (not_decide_lt ..)

/-- The request of a MOVE in a mode (R119). -/
def queuedRequest (a : MoveParams) (h : Holder) (m : MoveMode) : MoveRequest where
  requester := h
  reference := a.reference
  srcSelector := a.srcSelector.toNat
  srcBank := bankWord a.srcBank
  srcOffset := a.srcOffset.toNat
  dstSelector := a.dstSelector.toNat
  dstBank := bankWord a.dstBank
  dstOffset := a.dstOffset.toNat
  count := a.count.toNat
  mode := m
  progress := 0
  running := false
  resolved := none
  resetMark := false
  closeMark := false

/-- What the checks of MOVE leave known: a place in the Move Queue, and the request that takes it (R118
check 10, R119). -/
theorem checkMove_found (h : checkMove i a s = .ok r) :
    s.move.queue.length < Config.moveQueueTotal ∧ requestsOf i s.move.queue < Config.moveQueuePerPort
      ∧ ∃ m, MoveMode.ofBytes? a.mode a.fillUnit = some m ∧ r = queuedRequest a (s.caller i) m := by
  simp only [checkMove, found_liveWindow, Checks.bind_eq_ok, found_eq_ok, require_eq_ok, Checks.pure_eq,
    Except.ok.injEq, Bool.and_eq_true, decide_eq_true_eq] at h
  obtain ⟨-, -, -, -, -, -, sx, -, dx, -, -, -, srcName, hs, dstName, hd, m, hm, -, -, -, -, -, -, -, -,
    -, -, -, -, -, ⟨htotal, hport⟩, rfl⟩ := h
  obtain rfl := BankName.ofByte?_eq_some hs
  obtain rfl := BankName.ofByte?_eq_some hd
  exact ⟨htotal, hport, m, hm, rfl⟩

/-! ### The head of the Move Queue -/

theorem exec_moveTakeHead {rest : List MoveRequest} (hs : s.move.state = .idle)
    (hq : s.move.queue = r :: rest) :
    exec .moveTakeHead s = .next
      { s with move := ⟨{ r with running := true } :: rest, .startCheck, 0, s.move.pattern⟩ } := by
  change execMoveTakeHead s = _
  simp only [execMoveTakeHead, State.moveHead, hs, hq, if_true, List.head?_cons, State.setMoveHead,
    List.tail_cons]

/-- Settles O38: the checks of MOVE are those of the list, the request that passes them joins the queue, and
the idle engine takes the head. -/
theorem moveQueuedAndTaken : Obligations.MoveQueuedAndTaken := by
  refine ⟨fun i a s code hi => refused_of_mirrors hi rfl (mirrors_checkMove i a s),
    fun i a s m hi hc hm => ?_, fun s r rest hs hq => ?_⟩
  · obtain ⟨r, hr, he⟩ := acts_of_mirrors (c := .move i a) hi rfl (mirrors_checkMove i a s) hc
    obtain ⟨-, -, m', hm', rfl⟩ := checkMove_found hr
    cases hm.symm.trans hm'
    exact ⟨_, he, by simp [State.answered], rfl,
      (unchangedBut_moveQueue s _).answer (fun _ => .inl) (.inr rfl)⟩
  · exact ⟨_, exec_moveTakeHead hs hq, rfl, rfl, rfl, unchangedBut_withMove s _ _ _⟩

end Sys2Proof.Machine
end

section
/-! SUPPORT. The start check and the chunk check beside the manual's lists, and the start of a move (R121,
R125, R127, R128).
-/

namespace Sys2Proof.Machine

variable {s : State} {r : MoveRequest} {x : Resolved}

/-! ### The start check -/

/-- The bank that a side names is that of its word (R6, R64, R121). -/
theorem Window.named_eq (w : Window) (name : BankName) :
    w.named name = (w.resolve name).bind w.bank? := by
  cases name
  · rfl
  · simp only [Window.named, Window.resolve]
    split <;> rfl

theorem resolve_eq_some {w : Window} {name : BankName} {n : BankNo} (h : w.resolve name = some n) :
    n = if name = .live then w.live else w.live.other := by
  cases name
  · exact (Option.some.inj h).symm
  · exact (resolve_shadow_eq_some.1 h).2.symm

/-- The two banks looked up and a condition on each are one check, LIMIT (R121 check 5). -/
theorem mirrors_limit {β : Type} {m : List (Bool × ResultCode)} (sw dw : Window) (src dst : BankName)
    (p q : Bank → Bool) {f : BankNo → BankNo → Except ResultCode β}
    (hf : ∀ n k, Mirrors m (f n k)) :
    Mirrors ((!((sw.named src).any p) || !((dw.named dst).any q), .limit) :: m) (do
      let srcNo ← found (sw.resolve src) .limit
      let dstNo ← found (dw.resolve dst) .limit
      let srcBank ← found (sw.bank? srcNo) .limit
      let dstBank ← found (dw.bank? dstNo) .limit
      require (p srcBank && q dstBank) .limit
      f srcNo dstNo) := by
  rw [Window.named_eq, Window.named_eq]
  rcases sw.resolve src with _ | n
  · rfl
  rcases dw.resolve dst with _ | k
  · simp only [Option.bind_none, Option.any_none, Bool.not_false, Bool.or_true]
    rfl
  simp only [Option.bind_some, found_some, Checks.ok_bind]
  rcases sw.bank? n with _ | b
  · rfl
  rcases dw.bank? k with _ | c
  · simp only [Option.any_none, Bool.not_false, Bool.or_true]
    rfl
  simp only [found_some, Checks.ok_bind, Option.any_some]
  exact .cons (mirrors_require (Bool.not_and ..).symm) fun _ _ => hf n k

/-- The start check fails as the manual lists it (R121). -/
theorem mirrors_checkStart (s : State) (r : MoveRequest) :
    Mirrors (startChecks s r) (checkStart s r) := by
  refine .cons (mirrors_require ?_) fun _ _ => ?_
  · simp
  rw [found_liveWindow]
  refine .or_cons (mirrors_liveBehind s _) fun sx hsx => ?_
  obtain ⟨hsv, hsw, -⟩ := liveBehind_eq_ok.1 hsx
  rw [found_liveWindow]
  refine .cons (mirrors_liveBehind s _) fun dx hdx => ?_
  obtain ⟨hdv, hdw, -⟩ := liveBehind_eq_ok.1 hdx
  simp only [hsv, hdv, State.behind, Option.bind_some, hsw, hdw, Option.any_some]
  refine .cons (mirrors_require (sidesRefused_eq ..)) fun _ _ =>
    .cons (mirrors_require (misaligned_eq ..)) fun _ _ =>
    mirrors_limit _ _ _ _ (fun b => decide (r.srcOffset + r.mode.sourceSpan r.count ≤ b.limit))
      (fun b => decide (r.dstOffset + r.count ≤ b.limit)) fun _ _ =>
    .cons (mirrors_require ?_) fun _ _ => .cons (mirrors_require (Bool.not_not _).symm) fun _ _ => rfl
  simp

/-- What the start check resolves (R121). -/
theorem checkStart_found (h : checkStart s r = .ok x) :
    ∃ sv sw dv dw, s.view? ⟨r.requester, r.srcSelector⟩ = some sv ∧ s.window? sv.window = some sw
      ∧ s.view? ⟨r.requester, r.dstSelector⟩ = some dv ∧ s.window? dv.window = some dw
      ∧ x = ⟨sv.window, if r.srcBank = .live then sw.live else sw.live.other, dv.window,
          if r.dstBank = .live then dw.live else dw.live.other⟩ := by
  simp only [checkStart, Checks.bind_eq_ok, liveWindow_eq_ok, found_eq_ok, Checks.pure_eq,
    Except.ok.injEq] at h
  obtain ⟨-, -, sv, hsv, sw, ⟨hsw, -⟩, dv, hdv, dw, ⟨hdw, -⟩, -, -, -, -, n, hn, k, hk, -, -, -, -, -, -,
    -, -, -, -, rfl⟩ := h
  obtain rfl := resolve_eq_some hn
  obtain rfl := resolve_eq_some hk
  exact ⟨sv, sw, dv, dw, hsv, hsw, hdv, hdw, rfl⟩

/-- No check of the start fails with OK. -/
theorem startChecks_code {code : ResultCode} (h : firstFailure (startChecks s r) = some code) :
    code ≠ .ok := by
  obtain ⟨e, he, rfl⟩ := Option.map_eq_some_iff.1 h
  have hmem := List.mem_of_find?_eq_some he
  simp only [startChecks, List.mem_cons, List.not_mem_nil, or_false] at hmem
  rcases hmem with rfl | rfl | rfl | rfl | rfl | rfl | rfl <;> simp

/-! ### The start of a move -/

section Exec

variable {rest : List MoveRequest}

theorem exec_startCheck_refused {code : ResultCode} (hs : s.move.state = .startCheck)
    (hq : s.move.queue = r :: rest) (h : checkStart s r = .error code) :
    exec .startCheck s = .next (s.endMove r code false) := by
  change execStartCheck s = _
  simp only [execStartCheck, State.moveHead, hs, hq, if_true, List.head?_cons, h]

theorem exec_startCheck_passed (hs : s.move.state = .startCheck) (hq : s.move.queue = r :: rest)
    (h : checkStart s r = .ok x) :
    exec .startCheck s
      = .next (if r.resetMark then s.endMove r .aborted false else s.startMove r x) := by
  change execStartCheck s = _
  simp only [execStartCheck, State.moveHead, hs, hq, if_true, List.head?_cons, h]

theorem exec_chunkCheck_refused {code : ResultCode} (hs : s.move.state = .chunkCheck)
    (hq : s.move.queue = r :: rest) (h : checkChunk s r = .error code) :
    exec .chunkCheck s = .next (s.endMove r code false) := by
  change execChunkCheck s = _
  simp only [execChunkCheck, State.moveHead, hs, hq, if_true, List.head?_cons, h]

theorem exec_chunkCheck_passed {a : Unit} (hs : s.move.state = .chunkCheck)
    (hq : s.move.queue = r :: rest) (h : checkChunk s r = .ok a) :
    exec .chunkCheck s = .next { s with move.state := .chunkGrant } := by
  change execChunkCheck s = _
  simp only [execChunkCheck, State.moveHead, hs, hq, if_true, List.head?_cons, h]

end Exec

theorem unchangedBut_pin (s : State) (k : Nat) : UnchangedBut (· = .window k) s (s.pin k) := by
  unfold State.pin
  split
  · exact .refl _ s
  · exact unchangedBut_putWindow s k _

theorem unchangedBut_moveState (s : State) (y : MoveState) :
    UnchangedBut (· = .moveState) s { s with move.state := y } :=
  unchangedBut_setMove { state := .inl rfl }

/-- The start of a move writes its request, the two pins and the state of the engine (R121). -/
theorem unchangedBut_startMove (s : State) (r : MoveRequest) (x : Resolved) :
    UnchangedBut (fun y => y = .window x.srcWindow ∨ y = .window x.dstWindow ∨ y = .moveQueue
      ∨ y = .moveState) s (s.startMove r x) := by
  obtain ⟨y, -, he⟩ := s.startMove_eq r x
  rw [he]
  have hpins := ((unchangedBut_moveQueue s ({ r with resolved := some x } :: s.move.queue.tail)).trans
    (unchangedBut_pin _ x.srcWindow) (r := fun y => y = .window x.srcWindow ∨ y = .moveQueue)
    (fun _ => .inr) fun _ => .inl).trans (unchangedBut_pin _ x.dstWindow)
    (r := fun y => y = .window x.srcWindow ∨ y = .window x.dstWindow ∨ y = .moveQueue)
    (fun _ h => h.imp_right .inr) fun _ h => .inr (.inl h)
  refine hpins.trans (unchangedBut_moveState _ y) ?_ fun _ h => .inr (.inr (.inr h))
  exact fun _ h => h.imp_right fun h => h.imp_right .inl

theorem queue_startMove {rest : List MoveRequest} (hq : s.move.queue = r :: rest) (x : Resolved) :
    (s.startMove r x).move.queue = { r with resolved := some x } :: rest := by
  obtain ⟨y, -, hk⟩ := s.startMove_keeps r x
  rw [hk.move, hq]
  rfl

/-- A move that has not started ends with MOVE_DONE alone, or without a notice (R127, R128). -/
theorem moveEndNotices_unresolved (hr : r.resolved = none) (code : ResultCode) :
    moveEndNotices s r code false = moveDoneNotices s r code := by
  simp [moveEndNotices_eq, moveDamage, MoveRequest.releases, hr]

/-- Settles O39: the checks of the start are those of the list; a start that they refuse, or that the reset
mark does, is the end of the move, and any other pins what was resolved. -/
theorem startCheckStartsOrEnds : Obligations.StartCheckStartsOrEnds := by
  intro s r rest hs hq hr
  have hmirrors := mirrors_checkStart s r
  refine ⟨fun code hc => ?_, fun hc hmark => ?_, fun sv dv sw dw hc hmark hsv hsw hdv hdw => ?_⟩
  · have hended := moveEnded_endMove s r code false
    refine ⟨_, exec_startCheck_refused hs hq (hmirrors.error hc), hended, fun hm => ?_⟩
    obtain ⟨-, -, hstart, -⟩ := hm
    obtain ⟨-, hprogress, hcorrected⟩ := hstart hs r (by rw [hq]; rfl)
    obtain ⟨-, -, -, -, -, hposted, -⟩ := hended
    rw [moveEndNotices_unresolved hr] at hposted
    simpa [moveDoneNotices, startChecks_code hc, hprogress, hcorrected] using hposted
  · obtain ⟨x, hx⟩ := hmirrors.ok hc
    have hexec := exec_startCheck_passed hs hq hx
    rw [if_pos hmark] at hexec
    have hended := moveEnded_endMove s r .aborted false
    refine ⟨_, hexec, hended, ?_⟩
    obtain ⟨-, -, -, -, -, hposted, -⟩ := hended
    rw [moveEndNotices_unresolved hr] at hposted
    simpa [moveDoneNotices, hmark] using hposted
  · obtain ⟨x, hx⟩ := hmirrors.ok hc
    obtain ⟨sv', sw', dv', dw', hsv', hsw', hdv', hdw', rfl⟩ := checkStart_found hx
    cases hsv.symm.trans hsv'
    cases hsw.symm.trans hsw'
    cases hdv.symm.trans hdv'
    cases hdw.symm.trans hdw'
    have hexec := exec_startCheck_passed hs hq hx
    rw [if_neg (by simp [hmark])] at hexec
    refine ⟨_, hexec, queue_startMove hq _, ?_, ?_, rfl, ?_⟩
    · rw [State.window?_startMove, if_pos (.inl rfl), hsw]
      rfl
    · rw [State.window?_startMove, if_pos (.inr rfl), hdw]
      rfl
    · exact unchangedBut_startMove s r ⟨sv.window, _, dv.window, _⟩

/-! ### The chunk check -/

/-- What the chunk check confirms, one entry for each of its steps (R125). -/
def chunkChecks (s : State) (r : MoveRequest) (x : Resolved) : List (Bool × ResultCode) :=
  let sv := s.view? ⟨r.requester, r.srcSelector⟩
  let dv := s.view? ⟨r.requester, r.dstSelector⟩
  [(!s.active r.requester || r.closeMark, .aborted),
   (!(sv.any fun v => decide (v.window = x.srcWindow)), .aborted),
   (!(dv.any fun v => decide (v.window = x.dstWindow)), .aborted),
   (notLive (s.window? x.srcWindow) || notLive (s.window? x.dstWindow), .aborted),
   (!(sv.any fun v => v.rights.read) || !(dv.any fun v => v.rights.write)
      || (decide (r.srcBank = .shadow) && !(sv.any fun v => v.rights.swap))
      || (decide (r.dstBank = .shadow) && !(dv.any fun v => v.rights.swap)), .aborted),
   (r.resetMark, .aborted)]

/-- Two checks that refuse alike are one. -/
theorem firstFailure_merge (b c : Bool) (code : ResultCode) (m : List (Bool × ResultCode)) :
    firstFailure ((b, code) :: (c, code) :: m) = firstFailure ((b || c, code) :: m) := by
  cases b <;> rfl

/-- The steps of the chunk check all fail alike, so that they are one condition (R125). -/
theorem firstFailure_chunkChecks (s : State) (r : MoveRequest) (x : Resolved) :
    firstFailure (chunkChecks s r x) = if chunkCheckFails s r x then some .aborted else none := by
  simp only [chunkChecks, chunkCheckFails, firstFailure_merge]
  rw [firstFailure_cons, firstFailure_nil]
  simp only [Bool.or_assoc]

/-- The lookup of both windows and their states are one check (R125 step 3). -/
theorem notLive_or_notLive (sw dw : Option Window) :
    (notLive sw || notLive dw)
      = (sw.isNone || (dw.isNone || !(sw.any Window.isLive && dw.any Window.isLive))) := by
  cases sw <;> cases dw <;> simp [notLive]

/-- The chunk check fails as the manual lists it (R125). -/
theorem mirrors_checkChunk (hr : r.resolved = some x) :
    Mirrors (chunkChecks s r x) (checkChunk s r) := by
  simp only [checkChunk, hr, found_some, Checks.ok_bind]
  refine .cons (mirrors_require ?_) fun _ _ => .found_require fun sv hsv => .found_require fun dv hdv => ?_
  · simp
  rw [notLive_or_notLive]
  refine .or_cons (mirrors_found rfl) fun sw hsw => .or_cons (mirrors_found rfl) fun dw hdw => ?_
  simp only [hsv, hdv, found_eq_ok.1 hsw, found_eq_ok.1 hdw, Option.any_some]
  exact .cons (mirrors_require rfl) fun _ _ => .cons (mirrors_require (sidesRefused_eq ..)) fun _ _ =>
    mirrors_require (Bool.not_not _).symm

/-- Settles O41: the chunk check lets the chunk be requested where nothing in the list fails, and is the end
of the move where something does. -/
theorem chunkCheckConfirms : Obligations.ChunkCheckConfirms := by
  intro s r rest x hs hq hr
  have hmirrors := mirrors_checkChunk (s := s) hr
  refine ⟨fun hfails => ?_, fun hpasses => ?_⟩
  · have hrefused := hmirrors.error (by rw [firstFailure_chunkChecks, if_pos hfails])
    exact ⟨_, exec_chunkCheck_refused hs hq hrefused, moveEnded_endMove s r .aborted false⟩
  · obtain ⟨_, hok⟩ := hmirrors.ok (by simp [firstFailure_chunkChecks, hpasses])
    exact ⟨_, exec_chunkCheck_passed hs hq hok, rfl, unchangedBut_moveState s .chunkGrant⟩

end Sys2Proof.Machine
end

section
/-! SUPPORT. The grants of the Move Engine: the fill-pattern read, and the chunks of COPY, DESCEND and FILL
(R122 to R124, R126).
-/

namespace Sys2Proof.Machine

variable {s : State} {r : MoveRequest} {x : Resolved} {rest : List MoveRequest}

/-! ### What is granted, and where -/

/-- The running move of which the arbiter grants a read or a chunk next (R113). -/
theorem grantedMove_of_nextGrant {y : MoveState} (hg : s.nextGrant = some .moveEngine)
    (hs : s.move.state = y) (hq : s.move.queue = r :: rest) (hx : r.resolved = some x) :
    s.grantedMove y = some (r, x) := by
  simp [State.grantedMove, State.granted, State.moveHead, hg, hs, hq, hx]

/-- The address of a chunk in its bank (R122, R123). -/
theorem chunkAddress_eq {k : Nat} {n : BankNo} {offset start count a : Nat} {w : Window} {b : Bank}
    (hw : s.window? k = some w) (hb : w.bank? n = some b)
    (ha : a = b.firstPage * 256 + offset + start) (h : a + count ≤ 524288) :
    s.rangeAddress? k n (offset + start) count = some a := by
  rw [Nat.add_assoc] at ha
  subst ha
  exact rangeAddress?_eq hw hb h

/-! ### The fill-pattern read -/

theorem exec_fillPatternRead {unit a : Nat} {w : Window} {b : Bank} (flips : List BitFlip)
    (hg : s.nextGrant = some .moveEngine) (hs : s.move.state = .pattern) (hq : s.move.queue = r :: rest)
    (hx : r.resolved = some x) (hm : r.mode = .fill unit) (hw : s.window? x.srcWindow = some w)
    (hb : w.bank? x.srcBank = some b) (ha : a = b.firstPage * 256 + r.srcOffset)
    (h : a + unit ≤ 524288) :
    exec (.fillPatternRead flips) s
      = .next ((s.beginGrant .moveEngine flips).performPattern unit a) := by
  subst ha
  change execFillPatternRead flips s = _
  simp only [execFillPatternRead, grantedMove_of_nextGrant hg hs hq hx, hm, MoveMode.sourceSpan,
    rangeAddress?_eq hw hb h]

/-- A pattern read without an uncorrectable word fills the store (R124). -/
theorem performPattern_reads {unit a : Nat} (h : s.xm.countUncorrectable (touchedWords a unit) = 0) :
    s.performPattern unit a = { s with
      move.pattern := Table.writeRun 0#8 s.move.pattern 0 (s.xm.readRange a unit)
      move.state := .chunkCheck
      move.corrected := s.move.corrected + s.xm.countCorrected (touchedWords a unit) } := by
  simp only [State.performPattern, h, ne_eq, not_true_eq_false, if_false]

/-- A pattern read with an uncorrectable word leaves the store (R124). -/
theorem performPattern_fails {unit a : Nat} (h : s.xm.countUncorrectable (touchedWords a unit) ≠ 0) :
    s.performPattern unit a = { s with
      move.state := .moveEnd true
      move.corrected := s.move.corrected + s.xm.countCorrected (touchedWords a unit) } := by
  simp only [State.performPattern, if_pos h]

/-- The store after a pattern read (R124). -/
theorem value_readRange (m : Memory) (t : Table Byte) (a unit j : Nat) :
    Table.value 0#8 (Table.writeRun 0#8 t 0 (m.readRange a unit)) j
      = if j < unit then m.delivered (a + j) else Table.value 0#8 t j := by
  rw [Table.value_writeRun]
  by_cases hj : j < unit
  · simp [Memory.readRange, hj]
  · simp [Memory.readRange, hj]

theorem unchangedBut_performPattern (s : State) (unit a : Nat) :
    UnchangedBut (fun p => (∃ j, p = .patternByte j) ∨ p = .moveState ∨ p = .moveCorrected) s
      (s.performPattern unit a) := by
  by_cases h : s.xm.countUncorrectable (touchedWords a unit) = 0
  · rw [performPattern_reads h]
    exact unchangedBut_setMove { state := .inl (.inr (.inl rfl)), corrected := .inl (.inr (.inr rfl))
                                 pattern := fun j => .inl (.inl ⟨j, rfl⟩) }
  · rw [performPattern_fails h]
    exact unchangedBut_setMove { state := .inl (.inr (.inl rfl)), corrected := .inl (.inr (.inr rfl)) }

/-- Settles O40: the granted read is the pattern read at the address of the fill unit, which fills the store
or takes the engine to the move's end. -/
theorem patternReadFillsStore : Obligations.PatternReadFillsStore := by
  intro flips s r rest x unit w b a m hg hs hq hx hm hw hb ha h hmem
  subst hmem
  have hexec := exec_fillPatternRead flips hg hs hq hx hm hw hb ha h
  have hkeeps : UnchangedBut (fun y => y.inMemory ∨ (∃ j, y = .patternByte j) ∨ y = .moveState
      ∨ y = .moveCorrected ∨ y = .lastGranted) s
      ((s.beginGrant .moveEngine flips).performPattern unit a) :=
    (unchangedBut_beginGrant s .moveEngine flips).trans (unchangedBut_performPattern _ unit a)
      (fun _ h => h.imp_right fun h => .inr (.inr (.inr h)))
      fun _ h => .inr (h.imp_right fun h => h.imp_right .inl)
  by_cases hc : (s.xm.disturb flips).countUncorrectable (touchedWords a unit) = 0
  · rw [performPattern_reads (s := s.beginGrant .moveEngine flips) hc] at hexec hkeeps
    exact ⟨_, hexec, rfl, rfl, rfl, fun _ => ⟨rfl, value_readRange _ _ a unit⟩,
      fun hne => absurd hc hne, hkeeps⟩
  · rw [performPattern_fails (s := s.beginGrant .moveEngine flips) hc] at hexec hkeeps
    exact ⟨_, hexec, rfl, rfl, rfl, fun he => absurd he hc, fun _ => ⟨rfl, fun _ => rfl⟩, hkeeps⟩

/-! ### The chunks -/

/-- A chunk written, as the manual lists it (R126). -/
theorem writeChunk_acts (hq : s.move.queue = r :: rest) (dst : Nat) (data : List Byte) {n : Nat}
    (hn : data.length = n) (corrected : Nat) :
    Written s.xm (s.writeChunk r dst data corrected).xm dst data
      ∧ (s.writeChunk r dst data corrected).move.queue
          = { r with progress := r.progress + n } :: rest
      ∧ (s.writeChunk r dst data corrected).move.state
          = (if r.progress + n = r.count then .moveEnd false else .chunkCheck)
      ∧ (s.writeChunk r dst data corrected).move.corrected
          = s.move.corrected + corrected + s.xm.countCorrected (mergedWords dst n)
              + s.xm.countUncorrectable (mergedWords dst n)
      ∧ (s.writeChunk r dst data corrected).lastGranted = s.lastGranted
      ∧ UnchangedBut (fun y => y.inMemory ∨ y = .moveQueue ∨ y = .moveState ∨ y = .moveCorrected) s
          (s.writeChunk r dst data corrected) := by
  subst hn
  refine ⟨s.xm.written_writeRange dst data, ?_, rfl, rfl, rfl, ?_⟩
  · simp only [State.writeChunk, State.setMoveHead, hq, List.tail_cons]
  · have hengine := unchangedBut_withMove s ({ r with progress := r.progress + data.length } ::
      s.move.queue.tail) (if r.progress + data.length = r.count then .moveEnd false else .chunkCheck)
      (s.move.corrected + corrected + s.xm.countCorrected (mergedWords dst data.length)
        + s.xm.countUncorrectable (mergedWords dst data.length))
    exact hengine.trans (unchangedBut_memory _ (s.xm.writeRange dst data)) (fun _ => .inr) fun _ => .inl

/-- The frame of a granted chunk that is written. -/
theorem unchangedBut_grantedChunk (flips : List BitFlip) {t : State}
    (h : UnchangedBut (fun y => y.inMemory ∨ y = .moveQueue ∨ y = .moveState ∨ y = .moveCorrected)
      (s.beginGrant .moveEngine flips) t) :
    UnchangedBut (fun y => y.inMemory ∨ y = .moveQueue ∨ y = .moveState ∨ y = .moveCorrected
      ∨ y = .lastGranted) s t :=
  (unchangedBut_beginGrant s .moveEngine flips).trans h
    (fun _ h => h.imp_right fun h => .inr (.inr (.inr h)))
    fun _ h => h.imp_right fun h => h.imp_right fun h => h.imp_right .inl

theorem chunkStart_eq {start : Nat} (h : (r.mode = .copy ∧ start = r.progress)
      ∨ (r.mode = .descend ∧ start = r.count - r.progress - r.chunkLength)) : r.chunkStart = start := by
  unfold MoveRequest.chunkStart
  rcases h with ⟨hm, rfl⟩ | ⟨hm, rfl⟩ <;> rw [hm]

/-- The chunk of a COPY or DESCEND that is granted (R126). -/
theorem exec_copyChunk {src dst : Nat} (flips : List BitFlip) (hg : s.nextGrant = some .moveEngine)
    (hs : s.move.state = .chunkGrant) (hq : s.move.queue = r :: rest) (hx : r.resolved = some x)
    (hm : r.mode = .copy ∨ r.mode = .descend)
    (hsrc : s.rangeAddress? x.srcWindow x.srcBank (r.srcOffset + r.chunkStart) r.chunkLength = some src)
    (hdst : s.rangeAddress? x.dstWindow x.dstBank (r.dstOffset + r.chunkStart) r.chunkLength
      = some dst) :
    exec (.moveChunkGrant flips) s
      = .next ((s.beginGrant .moveEngine flips).performCopyChunk r src dst) := by
  change execMoveChunkGrant flips s = _
  simp only [execMoveChunkGrant, grantedMove_of_nextGrant hg hs hq hx, hdst]
  rcases hm with hm | hm <;> simp only [hm, hsrc]

theorem performCopyChunk_writes {src dst : Nat}
    (h : s.xm.countUncorrectable (touchedWords src r.chunkLength) = 0) :
    s.performCopyChunk r src dst = s.writeChunk r dst (s.xm.readRange src r.chunkLength)
      (s.xm.countCorrected (touchedWords src r.chunkLength)) := by
  simp only [State.performCopyChunk, h, ne_eq, not_true_eq_false, if_false]

theorem performCopyChunk_fails {src dst : Nat}
    (h : s.xm.countUncorrectable (touchedWords src r.chunkLength) ≠ 0) :
    s.performCopyChunk r src dst = { s with
      move.state := .moveEnd true
      move.corrected := s.move.corrected + s.xm.countCorrected (touchedWords src r.chunkLength) } := by
  simp only [State.performCopyChunk, if_pos h]

/-- Settles O42: the granted chunk reads its source range and, where no word of it is uncorrectable, is
written at its destination. -/
theorem copyChunkMovesBytes : Obligations.CopyChunkMovesBytes := by
  intro flips s r rest x sw dw sb db start n src dst m hg hs hq hx hn hmode hsw hsb hdw hdb hsrc hsn
    hdst hdn hmem
  subst hmem
  obtain rfl : n = r.chunkLength := hn
  obtain rfl := chunkStart_eq hmode
  have hexec := exec_copyChunk flips hg hs hq hx (hmode.imp And.left And.left)
    (chunkAddress_eq hsw hsb hsrc hsn) (chunkAddress_eq hdw hdb hdst hdn)
  refine ⟨fun hc => ?_, fun hc => ?_⟩
  · rw [performCopyChunk_writes (s := s.beginGrant .moveEngine flips) hc] at hexec
    obtain ⟨hwritten, hqueue, hstate, hcount, hlast, hkeeps⟩ := writeChunk_acts
      (s := s.beginGrant .moveEngine flips) hq dst ((s.xm.disturb flips).readRange src r.chunkLength)
      (n := r.chunkLength) (by simp [Memory.readRange])
      ((s.xm.disturb flips).countCorrected (touchedWords src r.chunkLength))
    exact ⟨_, hexec, hwritten, hqueue, hstate, hcount, hlast, unchangedBut_grantedChunk flips hkeeps⟩
  · rw [performCopyChunk_fails (s := s.beginGrant .moveEngine flips) hc] at hexec
    have hengine {m : MoveEngine} := unchangedBut_setMove (s := s.beginGrant .moveEngine flips) (m := m)
      (changed := fun y => y = .moveState ∨ y = .moveCorrected)
    refine ⟨_, hexec, rfl, rfl, rfl, rfl, (unchangedBut_beginGrant s .moveEngine flips).trans
      (hengine { state := .inl (.inl rfl), corrected := .inl (.inr rfl) }) ?_ ?_⟩
    · exact fun _ h => h.imp_right fun h => .inr (.inr h)
    · exact fun _ h => .inr (h.imp_right .inl)

/-- The chunk of a FILL that is granted (R126). -/
theorem exec_fillChunk {unit dst : Nat} (flips : List BitFlip) (hg : s.nextGrant = some .moveEngine)
    (hs : s.move.state = .chunkGrant) (hq : s.move.queue = r :: rest) (hx : r.resolved = some x)
    (hm : r.mode = .fill unit)
    (hdst : s.rangeAddress? x.dstWindow x.dstBank (r.dstOffset + r.progress) r.chunkLength
      = some dst) :
    exec (.moveChunkGrant flips) s = .next ((s.beginGrant .moveEngine flips).writeChunk r dst
      (s.move.patternRun unit r.progress r.chunkLength) 0) := by
  have hstart : r.chunkStart = r.progress := by rw [MoveRequest.chunkStart, hm]
  change execMoveChunkGrant flips s = _
  simp only [execMoveChunkGrant, grantedMove_of_nextGrant hg hs hq hx, hstart, hdst, hm,
    State.performFillChunk]
  rfl

/-- Settles O43: the granted chunk of a FILL is written from the store. -/
theorem fillChunkWritesPattern : Obligations.FillChunkWritesPattern := by
  intro flips s r rest x unit dw db n dst m hg hs hq hx hm hn hdw hdb hdst hdn hmem
  subst hmem
  obtain rfl : n = r.chunkLength := hn
  have hexec := exec_fillChunk flips hg hs hq hx hm (chunkAddress_eq hdw hdb hdst hdn)
  obtain ⟨hwritten, hqueue, hstate, hcount, hlast, hkeeps⟩ := writeChunk_acts
    (s := s.beginGrant .moveEngine flips) hq dst (s.move.patternRun unit r.progress r.chunkLength)
    (n := r.chunkLength) (by simp [MoveEngine.patternRun]) 0
  exact ⟨_, hexec, hwritten, hqueue, hstate, hcount, hlast, unchangedBut_grantedChunk flips hkeeps⟩

end Sys2Proof.Machine
end

section
/-! SUPPORT. No notice queue and no Move Queue ever holds more than its places (R117, R163): a full notice
queue drops what is posted to it, MOVE alone puts a request on the Move Queue, and its last check asks for a
place.
-/

namespace Sys2Proof.Machine

variable {s t u : State}

/-! ### Notices and requests -/

/-- The requesters of a queue, in order; R117 counts by them. -/
def requesters (queue : List MoveRequest) : List Holder := queue.map MoveRequest.requester

theorem requestsOf_eq (i : PortId) (queue : List MoveRequest) :
    requestsOf i queue = ((requesters queue).filter fun h => decide (h.port = i)).length := by
  rw [requesters, List.filter_map, List.length_map]
  rfl

/-- Notices may be posted, and requests may leave the Move Queue or be written with their requester. -/
theorem QueuesBounded.of_posts (h : QueuesBounded s) {ns : List Notice}
    (hp : t.ports = ns.foldl Ports.post s.ports)
    (hq : (requesters t.move.queue).Sublist (requesters s.move.queue)) : QueuesBounded t := by
  obtain ⟨hnotices, htotal, hport⟩ := h
  refine ⟨fun i => ?_, ?_, fun i => ?_⟩
  · rw [State.port, hp]
    exact Ports.posts_bounded ns s.ports hnotices i
  · have hlen := hq.length_le
    simp only [requesters, List.length_map] at hlen
    exact hlen.trans htotal
  · have hlen := (hq.filter fun h => decide (h.port = i)).length_le
    rw [← requestsOf_eq, ← requestsOf_eq] at hlen
    exact hlen.trans (hport i)

/-- Where the notices and the Move Queue stay, whatever else is written, the queues stay bounded. -/
theorem QueuesBounded.of_notices (h : QueuesBounded s)
    (hn : ∀ i, (t.port i).notices = (s.port i).notices) (hm : t.move = s.move) : QueuesBounded t := by
  simpa only [QueuesBounded, hn, hm] using h

theorem QueuesBounded.postAll (h : QueuesBounded s) (ns : List Notice) : QueuesBounded (s.postAll ns) :=
  h.of_posts rfl (.refl _)

theorem QueuesBounded.post (h : QueuesBounded s) (n : Notice) : QueuesBounded (s.post n) := h.postAll [n]

/-- A port may be written where its notice queue is no longer than before. -/
theorem QueuesBounded.setPort (h : QueuesBounded s) {i : PortId} {y : Port}
    (hy : y.notices.length ≤ (s.port i).notices.length) : QueuesBounded (s.setPort i y) := by
  obtain ⟨hnotices, hmoves⟩ := h
  refine ⟨fun j => ?_, hmoves⟩
  rw [State.port_setPort]
  split
  · rename_i e
    exact e ▸ hy.trans (hnotices i)
  · exact hnotices j

theorem QueuesBounded.answer (h : QueuesBounded s) (i : PortId) (code : ResultCode)
    (detail : List Byte) : QueuesBounded (s.answer i code detail) := h.setPort le_rfl

theorem QueuesBounded.reply (h : QueuesBounded s) (i : PortId) (code : ResultCode) :
    QueuesBounded (s.reply i code) := h.answer i code []

theorem QueuesBounded.withQueue (h : QueuesBounded s) {queue : List MoveRequest}
    (hq : (requesters queue).Sublist (requesters s.move.queue)) :
    QueuesBounded { s with move.queue := queue } := h.of_posts (ns := []) rfl hq

/-- Requests that leave the queue, and marks on those that stay (R128, R129). -/
theorem requesters_filter_map (p : MoveRequest → Bool) {mark : MoveRequest → MoveRequest}
    (hm : ∀ r, (mark r).requester = r.requester) (queue : List MoveRequest) :
    (requesters ((queue.filter p).map mark)).Sublist (requesters queue) := by
  have hmark : MoveRequest.requester ∘ mark = MoveRequest.requester := funext hm
  rw [requesters, List.map_map, hmark]
  exact List.filter_sublist.map _

/-- The head of the queue written with its requester (R120, R121, R126). -/
theorem requesters_setHead {r r' : MoveRequest} (hr : s.move.queue.head? = some r)
    (he : r'.requester = r.requester) :
    (requesters (r' :: s.move.queue.tail)).Sublist (requesters s.move.queue) := by
  rw [← queue_eq_of_head? hr, requesters, requesters, List.map_cons, List.map_cons, he, List.tail_cons]

theorem State.caller_port (s : State) (i : PortId) : (s.caller i).port = i := by
  cases i <;> rfl

/-- The request of a MOVE finds its place, and its port's (R118 check 10). -/
theorem QueuesBounded.queued (h : QueuesBounded s) {i : PortId} {a : MoveParams} {r : MoveRequest}
    (hr : checkMove i a s = .ok r) : QueuesBounded { s with move.queue := s.move.queue ++ [r] } := by
  obtain ⟨hnotices, -, hport⟩ := h
  obtain ⟨hroom, hportRoom, m, -, rfl⟩ := checkMove_found hr
  refine ⟨hnotices, ?_, fun j => ?_⟩
  · rw [List.length_append]
    exact hroom
  · simp only [requestsOf, List.filter_append, List.length_append]
    by_cases hj : i = j
    · subst hj
      simpa [requestsOf, queuedRequest, State.caller_port] using hportRoom
    · simpa [requestsOf, queuedRequest, State.caller_port, hj] using hport j

theorem QueuesBounded.foldl {α : Type} {f : State → α → State}
    (hf : ∀ (s : State) a, QueuesBounded s → QueuesBounded (f s a)) (l : List α) (h : QueuesBounded s) :
    QueuesBounded (l.foldl f s) := by
  induction l generalizing s with
  | nil => exact h
  | cons a l ih => exact ih (hf s a h)

/-! ### The shared operations -/

theorem QueuesBounded.beginRetirement (h : QueuesBounded s) (k : Nat) (cause : RetireCause) :
    QueuesBounded (s.beginRetirement k cause) := by
  rw [State.beginRetirement_keeps]
  exact h

theorem QueuesBounded.retireAll (h : QueuesBounded s) (cause : RetireCause) (ks : List Nat) :
    QueuesBounded (s.retireAll cause ks) := h.foldl (fun _ k hu => hu.beginRetirement k cause) ks

theorem QueuesBounded.requestExchange (h : QueuesBounded s) (k : Nat) (w : Window)
    (source : SwapSource) : QueuesBounded (s.requestExchange k w source) := by
  unfold State.requestExchange
  split
  · exact h.postAll _
  · split <;> exact h

theorem QueuesBounded.lineAction (h : QueuesBounded s) (line k : Nat) :
    QueuesBounded (s.lineAction line k) := by
  unfold State.lineAction
  split
  · exact h
  · split
    · split
      · exact h.beginRetirement ..
      · exact h.requestExchange ..
      · exact h
    · exact h

theorem QueuesBounded.tickWindow (h : QueuesBounded s) (k : Nat) : QueuesBounded (s.tickWindow k) := by
  unfold State.tickWindow
  split
  · exact h
  · split
    · split
      · exact h
      · split
        · rename_i w _ _ _ _ _ _
          exact QueuesBounded.beginRetirement (s := s.putWindow k { w with lifetime := none }) h ..
        · exact h
    · exact h

theorem QueuesBounded.takeTick (h : QueuesBounded s) : QueuesBounded s.takeTick :=
  QueuesBounded.foldl (s := { s with events.ticks := s.events.ticks - 1 }) (fun _ k hu => hu.tickWindow k)
    _ h

theorem QueuesBounded.quietPoint (h : QueuesBounded s) (k : Nat) : QueuesBounded (s.quietPoint k) :=
  h.of_posts (s.ports_quietPoint k) (by rw [(keepsWork_quietPoint s k).move])

theorem QueuesBounded.lowerTransfer (h : QueuesBounded s) (x : Transfer) (c : Completion) :
    QueuesBounded (s.lowerTransfer x c) := by
  have hlow : QueuesBounded (s.lowerInFlight x.window) := by
    unfold State.lowerInFlight
    split <;> exact h
  unfold State.lowerTransfer
  split
  · exact hlow.of_posts (ports_setDamaged _ _) (by rw [(keepsWork_setDamaged _ _).move])
  · exact hlow

theorem QueuesBounded.actReset (h : QueuesBounded s) (i : PortId) : QueuesBounded (s.actReset i) := by
  refine QueuesBounded.withQueue (h.setPort (Nat.zero_le _)) (requesters_filter_map _ (fun r => ?_) _)
  split <;> rfl

theorem QueuesBounded.complete (h : QueuesBounded s) (i : PortId) (x : Transfer) (c : Completion) :
    QueuesBounded (s.complete i x c) := by
  have hfreed : QueuesBounded
      (((s.lowerTransfer x c).quietPoint x.window).freePort i (completionResult x c)) :=
    ((h.lowerTransfer x c).quietPoint x.window).setPort le_rfl
  rw [State.complete_eq]
  split
  · exact hfreed.actReset i
  · exact hfreed

theorem QueuesBounded.endMove (h : QueuesBounded s) (r : MoveRequest) (code : ResultCode)
    (dataError : Bool) : QueuesBounded (s.endMove r code dataError) :=
  h.of_posts (ports_endMove s r code dataError) ((List.tail_sublist _).map _)

theorem QueuesBounded.pin (h : QueuesBounded s) (k : Nat) : QueuesBounded (s.pin k) := by
  unfold State.pin
  split <;> exact h

theorem QueuesBounded.startMove (h : QueuesBounded s) {r : MoveRequest}
    (hr : s.move.queue.head? = some r) (x : Resolved) : QueuesBounded (s.startMove r x) := by
  have hhead : QueuesBounded (s.setMoveHead { r with resolved := some x }) :=
    h.withQueue (requesters_setHead hr rfl)
  exact (hhead.pin x.srcWindow).pin x.dstWindow

theorem QueuesBounded.writeChunk (h : QueuesBounded s) {r : MoveRequest}
    (hr : s.move.queue.head? = some r) (dst : Nat) (data : List Byte) (corrected : Nat) :
    QueuesBounded (s.writeChunk r dst data corrected) :=
  h.withQueue (queue := { r with progress := r.progress + data.length } :: s.move.queue.tail)
    (requesters_setHead hr rfl)

theorem QueuesBounded.teardown (h : QueuesBounded s) (slot : Nat) : QueuesBounded (s.teardown slot) := by
  have hview (u : State) (a : Holder) (n : Nat) (hu : QueuesBounded u) :
      QueuesBounded (u.closeView a n) := by
    unfold State.closeView
    split
    · exact hu
    · exact QueuesBounded.postAll (s := { u with dir.views := _ }) hu _
  have hmoves (u : State) (a : Holder) (hu : QueuesBounded u) : QueuesBounded (u.closeMoves a) := by
    refine (hu.withQueue (requesters_filter_map _ (fun r => ?_) _)).postAll _
    split <;> rfl
  have hstate (u : State) (a : Holder) (hu : QueuesBounded u) : QueuesBounded (u.closeState slot a) := by
    unfold State.closeState
    split
    · exact hu
    · exact QueuesBounded.post (s := u.setSlot slot .closed) hu _
  exact hstate _ _ (hmoves _ _ ((h.foldl (fun u n hu => hview u _ n hu) _).retireAll _ _))

/-! ### The frame of a command -/

theorem QueuesBounded.onPort (h : QueuesBounded s) {i : PortId} {during always : Bool} {act : State}
    (ha : QueuesBounded act) : QueuesBounded (s.onPort i during always act) := by
  unfold State.onPort
  split
  · exact h.reply ..
  · exact ha

theorem QueuesBounded.checked {α : Type} (h : QueuesBounded s) {i : PortId}
    {checks : Except ResultCode α} {act : α → State}
    (ha : ∀ a, checks = .ok a → QueuesBounded (act a)) : QueuesBounded (s.checked i checks act) := by
  rcases hc : checks with code | a
  · exact h.reply ..
  · exact ha a hc

/-- A command that answers after its act. -/
theorem QueuesBounded.answering {α : Type} (h : QueuesBounded s) {i : PortId}
    {checks : Except ResultCode α} {act : α → State} {code : ResultCode} {detail : α → List Byte}
    (ha : ∀ a, checks = .ok a → QueuesBounded (act a)) :
    QueuesBounded (s.onIdle i (s.checked i checks fun a => (act a).answer i code (detail a))) :=
  h.onPort (h.checked fun a hc => (ha a hc).answer ..)

theorem QueuesBounded.onAPort (h : QueuesBounded s) {i : PortId} {act : State} (ha : QueuesBounded act) :
    QueuesBounded (s.onAPort i act) := by
  cases i
  · exact h.reply ..
  · exact h.reply ..
  · exact h.onPort ha

/-! ### The events of the engines -/

theorem QueuesBounded.moveTakeHead (h : QueuesBounded s) (ht : execMoveTakeHead s = .next t) :
    QueuesBounded t := by
  unfold execMoveTakeHead at ht
  cases ht
  split
  · exact h
  · rename_i r hr
    exact h.withQueue (requesters_setHead (moveHead_eq_some.1 hr).2 rfl)

theorem QueuesBounded.startCheck (h : QueuesBounded s) (ht : execStartCheck s = .next t) :
    QueuesBounded t := by
  unfold execStartCheck at ht
  cases ht
  split
  · exact h
  · rename_i r hr
    split
    · exact h.endMove ..
    · split
      · exact h.endMove ..
      · exact h.startMove (moveHead_eq_some.1 hr).2 _

theorem QueuesBounded.fillPatternRead (h : QueuesBounded s) {flips : List BitFlip}
    (ht : execFillPatternRead flips s = .next t) : QueuesBounded t := by
  unfold execFillPatternRead at ht
  split at ht
  · cases ht
    exact h
  · split at ht
    · cases ht
    · cases ht
      simp only [State.performPattern]
      split <;> exact h

theorem QueuesBounded.chunkCheck (h : QueuesBounded s) (ht : execChunkCheck s = .next t) :
    QueuesBounded t := by
  unfold execChunkCheck at ht
  cases ht
  split
  · exact h
  · split
    · exact h.endMove ..
    · exact h

theorem QueuesBounded.copyChunk (h : QueuesBounded s) {flips : List BitFlip} {r : MoveRequest}
    (hr : s.move.queue.head? = some r) (src dst : Nat) :
    QueuesBounded ((s.beginGrant .moveEngine flips).performCopyChunk r src dst) := by
  simp only [State.performCopyChunk]
  split
  · exact h
  · exact QueuesBounded.writeChunk (s := s.beginGrant .moveEngine flips) h hr ..

theorem QueuesBounded.moveChunkGrant (h : QueuesBounded s) {flips : List BitFlip}
    (ht : execMoveChunkGrant flips s = .next t) : QueuesBounded t := by
  unfold execMoveChunkGrant at ht
  split at ht
  · cases ht
    exact h
  · rename_i r x hg
    obtain ⟨-, hr, -⟩ := grantedMove_eq_some hg
    split at ht
    · cases ht
    · split at ht
      · cases ht
        exact QueuesBounded.writeChunk (s := s.beginGrant .moveEngine flips) h hr ..
      all_goals
        split at ht
        · cases ht
        · cases ht
          exact h.copyChunk hr ..

theorem QueuesBounded.moveEnd (h : QueuesBounded s) (ht : execMoveEnd s = .next t) : QueuesBounded t := by
  unfold execMoveEnd at ht
  cases ht
  split
  · exact h.endMove ..
  · exact h.endMove ..
  · exact h

theorem QueuesBounded.sweep (h : QueuesBounded s) (ht : execSweep s = .next t) : QueuesBounded t := by
  unfold execSweep at ht
  cases ht
  split
  · rename_i r _
    exact QueuesBounded.postAll (s := { s with dir.views := _ }) h _
  all_goals exact h

theorem QueuesBounded.pageScrubGrant (h : QueuesBounded s) (ht : execPageScrubGrant s = .next t) :
    QueuesBounded t := by
  unfold execPageScrubGrant at ht
  split at ht
  · split at ht
    · split at ht <;> cases ht
      exact h
    · cases ht
      exact h
  all_goals
    cases ht
    exact h

theorem QueuesBounded.pageRelease (h : QueuesBounded s) (ht : execPageRelease s = .next t) :
    QueuesBounded t := by
  unfold execPageRelease at ht
  cases ht
  split
  · simp only
    split <;> exact h
  all_goals exact h

theorem QueuesBounded.closeIfLast (h : QueuesBounded s) (a : Holder) :
    QueuesBounded (s.closeIfLast a) := by
  unfold State.closeIfLast
  split
  · exact h
  · exact h
  · split
    · rename_i slot _
      exact QueuesBounded.post (s := s.setSlot slot.val .closed) h _
    · exact h

theorem QueuesBounded.windowFreeing (h : QueuesBounded s) (ht : execWindowFreeing s = .next t) :
    QueuesBounded t := by
  unfold execWindowFreeing at ht
  cases ht
  split
  · rename_i r _
    exact (QueuesBounded.post (s := s.freeEntry r) h _).closeIfLast r.owner
  all_goals exact h

theorem QueuesBounded.startupScrubGrant (h : QueuesBounded s) (ht : execStartupScrubGrant s = .next t) :
    QueuesBounded t := by
  unfold execStartupScrubGrant at ht
  split at ht
  · cases ht
    exact h
  · split at ht <;> cases ht
    exact h

theorem QueuesBounded.startupPageRelease (h : QueuesBounded s)
    (ht : execStartupPageRelease s = .next t) : QueuesBounded t := by
  unfold execStartupPageRelease at ht
  cases ht
  split
  · split <;> exact h
  all_goals exact h

theorem QueuesBounded.scrubEnd (h : QueuesBounded s) (ht : execScrubEnd s = .next t) :
    QueuesBounded t := by
  unfold execScrubEnd at ht
  cases ht
  split
  · exact h.of_notices (fun i => by cases i <;> rfl) rfl
  · exact h

/-! ### Transfers -/

theorem QueuesBounded.acceptTransfer (h : QueuesBounded s) (i : PortId) (x : Transfer) (w : Window) :
    QueuesBounded (s.acceptTransfer i x w) := by
  refine QueuesBounded.reply (QueuesBounded.setPort (s := s.putWindow x.window _) h ?_) i .accepted
  exact le_rfl

theorem QueuesBounded.putGrant (h : QueuesBounded s) {i : PortId} {flips : List BitFlip}
    (ht : execPutGrant i flips s = .next t) : QueuesBounded t := by
  unfold execPutGrant at ht
  split at ht
  · cases ht
    exact h
  · split at ht <;> cases ht
    exact QueuesBounded.setPort (s := s) h le_rfl

theorem QueuesBounded.fetchGrant (h : QueuesBounded s) {i : PortId} {flips : List BitFlip}
    (ht : execFetchGrant i flips s = .next t) : QueuesBounded t := by
  unfold execFetchGrant at ht
  split at ht
  · cases ht
    exact h
  · split at ht <;> cases ht
    exact QueuesBounded.setPort (s := s.beginGrant (.port i) flips) h le_rfl

/-! ### Every command and event -/

/-- A part that is reset has empty queues (R169). -/
theorem queuesBounded_reset : QueuesBounded State.reset :=
  ⟨fun i => by cases i <;> exact Nat.zero_le _, Nat.zero_le _, fun _ => Nat.zero_le _⟩

theorem QueuesBounded.exec {c : Instr} (h : QueuesBounded s) (ht : exec c s = .next t) :
    QueuesBounded t := by
  cases c
  case readStatus i =>
    cases ht
    exact h.onPort ((h.setPort (y := { s.port i with lost := false }) le_rfl).answer ..)
  case readNotice i =>
    cases ht
    refine h.onPort ?_
    split
    · exact h.answer ..
    · rename_i n rest hn
      refine (h.setPort (y := { s.port i with notices := rest }) ?_).answer ..
      simp [hn]
  case portReset i =>
    cases ht
    refine h.onPort ?_
    split
    · exact (h.actReset i).answer ..
    · exact (h.setPort (y := { s.port i with state := .resetting }) le_rfl).answer ..
    · exact h.answer ..
    · exact h
  case loadStaging i column count payload =>
    cases ht
    split
    · exact h.answering fun _ _ => h.setPort le_rfl
    · exact h.reply ..
  case clearStaging i =>
    cases ht
    exact h.onPort ((h.setPort (y := { s.port i with staging := [], mark := false }) le_rfl).answer ..)
  case put | fetch =>
    cases ht
    exact h.onPort (h.checked fun _ _ => h.acceptTransfer ..)
  case move =>
    cases ht
    exact h.answering fun _ hr => h.queued hr
  case grantView =>
    cases ht
    exact h.answering fun g _ => QueuesBounded.post (s := s.putView g.target g.view) h _
  case narrowView | dropView =>
    cases ht
    exact h.answering fun _ _ => QueuesBounded.postAll (s := { s with dir.views := _ }) h _
  case retireWindow =>
    cases ht
    exact h.answering fun _ _ => h.beginRetirement ..
  case swapBanks =>
    cases ht
    exact h.answering fun _ _ => h.requestExchange ..
  case selectApp =>
    cases ht
    refine h.onAPort (h.checked fun _ _ => QueuesBounded.reply ?_ _ _)
    unfold State.selectApp
    split
    · exact h
    · exact h.of_notices (fun i => by cases i <;> rfl) rfl
  case openSlot =>
    cases ht
    exact h.onAPort (h.checked fun n _ => QueuesBounded.reply (s := s.setSlot n .opened) h _ _)
  case closeSlot =>
    cases ht
    exact h.onAPort (h.checked fun _ _ => (h.teardown _).answer ..)
  case frameRejected =>
    cases ht
    split
    · exact h.reply ..
    · exact h.reply ..
    all_goals exact h
  case frameDiscarded i bytes =>
    cases ht
    split
    · exact h.setPort le_rfl
    all_goals exact h
  case deviceReset =>
    cases ht
    exact queuesBounded_reset
  case startupScrubGrant => exact h.startupScrubGrant ht
  case startupPageRelease => exact h.startupPageRelease ht
  case scrubEnd => exact h.scrubEnd ht
  case putGrant => exact h.putGrant ht
  case fetchGrant => exact h.fetchGrant ht
  case transferCompletion =>
    cases ht
    split
    · exact h.complete ..
    all_goals exact h
  case moveTakeHead => exact h.moveTakeHead ht
  case startCheck => exact h.startCheck ht
  case fillPatternRead => exact h.fillPatternRead ht
  case chunkCheck => exact h.chunkCheck ht
  case moveChunkGrant => exact h.moveChunkGrant ht
  case moveEnd => exact h.moveEnd ht
  case sweep => exact h.sweep ht
  case pageScrubGrant => exact h.pageScrubGrant ht
  case pageRelease => exact h.pageRelease ht
  case windowFreeing => exact h.windowFreeing ht
  case lineEvent line =>
    cases ht
    split
    · exact QueuesBounded.foldl (s := s.takeLineEvent line.val) (fun _ k hu => hu.lineAction _ k) _ h
    · exact h
  case tamperLineEvent line =>
    cases ht
    split
    · exact (QueuesBounded.retireAll (s := { s.takeLineEvent line.val with dir.tamper := true }) h
        _ _).postAll _
    · exact h
  case tick =>
    cases ht
    split
    · exact h
    · exact h.takeTick
  case lifetimeExpiry =>
    cases ht
    split
    · exact h
    · split
      · exact h.takeTick
      · exact h
  case tickEmit =>
    cases ht
    exact h
  case retireTakeHead | lineEdge =>
    cases ht
    split <;> exact h
  case readStaging | describeView | openWindow | renew | stageLimit | setPools | setQuota | setLine
      | lockPolicy | clearTamper =>
    cases ht
    exact h.answering fun _ _ => h

/-- Settles O51: no command or event takes a queue beyond its places. -/
theorem queuesStayBounded : Obligations.QueuesStayBounded := by
  intro s t h hstep
  unfold step at hstep
  split at hstep
  · cases hstep
    exact h
  · rename_i c rest _
    exact QueuesBounded.exec (s := { s with pending := rest }) h hstep

end Sys2Proof.Machine
end

section
/-! SUPPORT. SELECT APP and OPEN SLOT, which the A-port alone knows (R131, R134, R136).
-/

namespace Sys2Proof.Machine

variable {s : State}

/-! ### The A-port's own commands -/

/-- A command of the A-port is unknown to the other ports, whatever their state (R131, R158). -/
theorem refused_of_onAPort {c : Instr} {i : PortId} {act : State}
    (he : exec c s = .next (s.onAPort i act)) (hi : i ≠ .aPort) : Refused c s i .unknown := by
  cases i
  case aPort => exact absurd rfl hi
  all_goals exact refused_of_reply he

/-! ### SELECT APP -/

theorem unchangedBut_acting (s : State) (slot : Fin 32) :
    UnchangedBut (· = .actingSlot) s { s with ports := { s.ports with acting := slot } } := by
  intro x hx
  cases x
  case actingSlot => exact absurd rfl hx
  case reserves => exact ⟨rfl, rfl⟩
  all_goals exact rfl

/-- A change of slot empties the A-port's staging buffer and clears its mark, and then names the slot
(R134). -/
theorem selectApp_other {slot : Fin 32} (h : slot ≠ s.ports.acting) :
    s.selectApp slot
      = let t := s.setPort .aPort { s.port .aPort with staging := [], mark := false }
        { t with ports := { t.ports with acting := slot } } := if_neg h

theorem unchangedBut_selectApp (s : State) (slot : Fin 32) :
    UnchangedBut (fun x => x = .actingSlot ∨ (∃ c, x = .stagingColumn .aPort c)
      ∨ x = .guardedMark .aPort) s (s.selectApp slot) := by
  by_cases h : slot = s.ports.acting
  · rw [State.selectApp, if_pos h]
    exact .refl _ s
  · rw [selectApp_other h]
    exact (unchangedBut_setPort (changed := fun x => (∃ c, x = .stagingColumn .aPort c)
        ∨ x = .guardedMark .aPort)
      { staging := fun c => .inl (.inl ⟨c, rfl⟩), mark := .inl (.inr rfl) }).trans
      (unchangedBut_acting _ slot) (fun _ => .inr) fun _ => .inl

/-- The one check of SELECT APP (R134). -/
def selectAppChecks (slot : Byte) : List (Bool × ResultCode) := [(decide (31 < slot.toNat), .badArg)]

theorem mirrors_checkSelectApp (slot : Byte) :
    Mirrors (selectAppChecks slot) (require (decide (slot.toNat < 32)) .badArg) := by
  refine mirrors_require ?_
  rw [← decide_not, decide_eq_decide]
  omega

theorem exec_selectApp {slot : Byte} (hi : (s.port .aPort).state = .idle) (hn : slot.toNat ≤ 31) :
    exec (.selectApp .aPort slot) s
      = .next ((s.selectApp (Fin.ofNat 32 slot.toNat)).reply .aPort .ok) := by
  have hc : firstFailure (selectAppChecks slot) = none := by
    rw [selectAppChecks, firstFailure_cons, decide_eq_false (by omega)]
    rfl
  obtain ⟨-, -, he⟩ := acts_of_mirrors (c := .selectApp .aPort slot) hi rfl
    (mirrors_checkSelectApp slot) hc
  exact he

theorem val_ofNat_slot {n : Nat} (hn : n ≤ 31) : (Fin.ofNat 32 n).val = n :=
  Nat.mod_eq_of_lt (by omega)

/-- SELECT APP of the slot that acts already answers and leaves all else (R134). -/
theorem selectApp_same_acts {slot : Byte} (hi : (s.port .aPort).state = .idle)
    (h : slot.toNat = s.ports.acting.val) :
    ∃ t, exec (.selectApp .aPort slot) s = .next t ∧ t.answered .aPort .ok []
      ∧ UnchangedBut (fun x => x = .response .aPort) s t := by
  have hn : slot.toNat ≤ 31 := by omega
  have hslot : Fin.ofNat 32 slot.toNat = s.ports.acting := Fin.ext ((val_ofNat_slot hn).trans h)
  refine ⟨_, exec_selectApp hi hn, by simp [State.answered], ?_⟩
  rw [State.selectApp, if_pos hslot]
  exact s.answer_unchangedBut .aPort .ok []

/-- SELECT APP of another slot, as the manual lists its effects (R134). -/
theorem selectApp_other_acts {slot : Byte} (hi : (s.port .aPort).state = .idle) (hn : slot.toNat ≤ 31)
    (h : slot.toNat ≠ s.ports.acting.val) :
    ∃ t, exec (.selectApp .aPort slot) s = .next t ∧ t.answered .aPort .ok []
      ∧ t.ports.acting.val = slot.toNat ∧ (∀ c, t.column .aPort c = 0#8)
      ∧ (t.port .aPort).mark = false
      ∧ UnchangedBut (fun x => x = .actingSlot ∨ (∃ c, x = .stagingColumn .aPort c)
          ∨ x = .guardedMark .aPort ∨ x = .response .aPort) s t := by
  have hslot : Fin.ofNat 32 slot.toNat ≠ s.ports.acting := fun e =>
    h ((val_ofNat_slot hn).symm.trans (congrArg Fin.val e))
  refine ⟨_, exec_selectApp hi hn, by simp [State.answered], ?_, ?_, ?_,
    (unchangedBut_selectApp s _).answer ?_ (.inr (.inr (.inr rfl)))⟩
  · rw [selectApp_other hslot]
    exact val_ofNat_slot hn
  · intro c
    rw [selectApp_other hslot]
    rfl
  · rw [selectApp_other hslot]
    rfl
  · exact fun _ hx => hx.imp_right fun hx => hx.imp_right .inl

/-! ### OPEN SLOT -/

/-- The checks that OPEN SLOT and CLOSE SLOT share (R136, R137). -/
def slotChecks (n : Byte) (s : State) : List (Bool × ResultCode) :=
  [(!decide (s.ports.acting = 0), .notOwner),
   (decide (n.toNat = 0) || decide (31 < n.toNat), .badArg)]

theorem mirrors_checkSlot (n : Byte) (s : State) : Mirrors (slotChecks n s) (checkSlot n s) := by
  refine .cons (mirrors_require rfl) fun _ _ => .cons (mirrors_require ?_) fun _ _ => rfl
  rw [Bool.eq_iff_iff]
  simp only [Bool.or_eq_true, Bool.not_eq_true', Bool.and_eq_false_iff, decide_eq_true_eq,
    decide_eq_false_iff_not]
  omega

theorem checkSlot_ok {n : Byte} {k : Nat} (h : checkSlot n s = .ok k) :
    k = n.toNat ∧ 1 ≤ n.toNat ∧ n.toNat ≤ 31 := by
  simp only [checkSlot, Checks.bind_eq_ok, require_eq_ok, Checks.pure_eq, Except.ok.injEq,
    Bool.and_eq_true, decide_eq_true_eq] at h
  obtain ⟨-, -, -, ⟨hlo, hhi⟩, rfl⟩ := h
  exact ⟨rfl, hlo, hhi⟩

/-- OPEN SLOT refuses as the manual lists it (R136). -/
theorem mirrors_checkOpenSlot (n : Byte) (s : State) :
    Mirrors (openSlotChecks n s) (checkOpenSlot n s) := by
  refine (mirrors_checkSlot n s).bind fun k hk => ?_
  obtain ⟨rfl, -⟩ := checkSlot_ok hk
  exact .cons (mirrors_require (Bool.not_not _).symm) fun _ _ =>
    .cons (mirrors_require (Bool.not_not _).symm) fun _ _ => rfl

/-- What the checks of OPEN SLOT leave known (R136). -/
theorem checkOpenSlot_ok {n : Byte} {k : Nat} (h : checkOpenSlot n s = .ok k) :
    k = n.toNat ∧ s.slot n.toNat = .closed := by
  simp only [checkOpenSlot, Checks.bind_eq_ok, require_eq_ok, Checks.pure_eq, Except.ok.injEq,
    Bool.not_eq_true', decide_eq_false_iff_not] at h
  obtain ⟨k, hk, -, hopen, -, hclosing, rfl⟩ := h
  obtain ⟨rfl, -⟩ := checkSlot_ok hk
  refine ⟨rfl, ?_⟩
  cases hs : s.slot n.toNat
  case closed => rfl
  case opened => exact absurd hs hopen
  case closing => exact absurd hs hclosing

/-- Settles O30: SELECT APP writes the acting slot and the A-port's staging alone, and OPEN SLOT the
entry of a slot that its checks leave CLOSED. -/
theorem slotsSelectedAndOpened : Obligations.SlotsSelectedAndOpened := by
  refine ⟨fun slot s => ⟨fun i => refused_of_onAPort rfl, fun hi => ⟨fun hn => ?_,
      selectApp_same_acts hi, selectApp_other_acts hi⟩⟩,
    fun n s => ⟨fun i => refused_of_onAPort rfl, fun hi =>
      ⟨fun _ => refused_of_mirrors hi rfl (mirrors_checkOpenSlot n s), fun hc => ?_⟩⟩⟩
  · refine refused_of_mirrors hi rfl (mirrors_checkSelectApp slot) ?_
    rw [selectAppChecks, firstFailure_cons, decide_eq_true hn, if_pos rfl]
  · obtain ⟨k, hk, he⟩ := acts_of_mirrors (c := .openSlot .aPort n) hi rfl
      (mirrors_checkOpenSlot n s) hc
    obtain ⟨rfl, hclosed⟩ := checkOpenSlot_ok hk
    exact ⟨hclosed, _, he, by simp [State.answered],
      (s.slot_setSlot n.toNat n.toNat .opened).trans (if_pos rfl),
      (unchangedBut_setSlot s n.toNat .opened).answer (fun _ => .inl) (.inr rfl)⟩

end Sys2Proof.Machine
end

section
/-! SUPPORT. CLOSE SLOT: its checks and the four steps of its teardown (R129, R137, R138).
-/

namespace Sys2Proof.Machine

variable {s t : State} {views : Table View}

/-! ### The checks -/

/-- CLOSE SLOT refuses as the manual lists it (R137). -/
theorem mirrors_checkCloseSlot (n : Byte) (s : State) :
    Mirrors (closeSlotChecks n s) (checkCloseSlot n s) := by
  refine (mirrors_checkSlot n s).bind fun k hk => ?_
  obtain ⟨rfl, -⟩ := checkSlot_ok hk
  exact .cons (mirrors_require rfl) fun _ _ => rfl

/-- What the checks of CLOSE SLOT leave known (R137). -/
theorem checkCloseSlot_ok {n : Byte} {k : Nat} (h : checkCloseSlot n s = .ok k) :
    k = n.toNat ∧ 1 ≤ n.toNat ∧ n.toNat ≤ 31 := by
  simp only [checkCloseSlot, Checks.bind_eq_ok, Checks.pure_eq, Except.ok.injEq] at h
  obtain ⟨k, hk, -, -, rfl⟩ := h
  exact checkSlot_ok hk

/-! ### The views of the slot (step 1) -/

theorem childrenOf_voidKeys (views : Table View) (ks : List Nat) (k : Nat) :
    childrenOf (voidKeys views ks) k = (childrenOf views k).filter fun j => !ks.contains j := by
  simp only [childrenOf, voidKeys, List.filter_filter, List.filter_map]
  congr 1
  refine List.filter_congr fun e _ => ?_
  simp [Bool.and_comm]

/-- A walk that meets none of the views voided is as it was. -/
theorem treeWalk_voidKeys {ks : List Nat} : ∀ {n k : Nat}, (∀ j ∈ treeWalk views n k, j ∉ ks) →
    treeWalk (voidKeys views ks) n k = treeWalk views n k
  | 0, _, _ => rfl
  | 1, k, _ => by simp [treeWalk, List.flatMap_def]
  | n + 2, k, h => by
    have hbelow : ∀ c ∈ childrenOf views k, ∀ j ∈ treeWalk views (n + 1) c, j ∉ ks :=
      fun c hc j hj => h j (List.mem_cons_of_mem _ (List.mem_flatMap.2 ⟨c, hc, hj⟩))
    have hchildren : childrenOf (voidKeys views ks) k = childrenOf views k := by
      rw [childrenOf_voidKeys]
      refine List.filter_eq_self.2 fun c hc => ?_
      simpa using hbelow c hc c (List.mem_cons_self ..)
    rw [treeWalk, treeWalk, hchildren]
    exact congrArg (k :: ·) (List.flatMap_congr fun c hc => treeWalk_voidKeys (hbelow c hc))

theorem voidKeys_voidKeys (views : Table View) (ks js : List Nat) :
    voidKeys (voidKeys views ks) js = voidKeys views (ks ++ js) := by
  simp [voidKeys, List.filter_filter, Bool.and_comm]

/-- A place that holds no view is voided for nothing. -/
theorem voidKeys_singleton (hr : Table.rising views = true) {k : Nat} (hk : Table.at? views k = none) :
    voidKeys views [k] = views := by
  refine List.filter_eq_self.2 fun e he => ?_
  have hne : e.1 ≠ k := by
    rintro rfl
    cases hk.symm.trans (Table.at?_of_mem hr he)
  simpa using hne

/-- A VALID view of a subtree names the window of its top. -/
theorem GrantTable.window_of_mem_subtree (hg : GrantTable views) {j k : Nat} {x : View}
    (hj : j ∈ subtree views k) (hx : Table.at? views j = some x) :
    ∃ y, Table.at? views k = some y ∧ y.window = x.window := by
  obtain ⟨y, hy, hw, -⟩ := hg.above (hg.below_of_mem_treeWalk hj) hx
  exact ⟨y, hy, hw⟩

/-- A place of a subtree that holds no view is its top. -/
theorem GrantTable.eq_of_mem_subtree (hg : GrantTable views) {j k : Nat} (hj : j ∈ subtree views k)
    (hx : Table.at? views j = none) : j = k := by
  rcases Relation.ReflTransGen.cases_head (hg.below_of_mem_treeWalk hj) with e | ⟨b, hs, -⟩
  · exact e
  · obtain ⟨x, -, hx', -⟩ := hg.parent hs
    cases hx.symm.trans hx'

/-- Nothing is granted from a VOID view. -/
theorem GrantTable.subtree_void (hg : GrantTable views) {k : Nat} (hk : Table.at? views k = none) :
    subtree views k = [k] := by
  have hnil : childrenOf views k = [] := List.eq_nil_iff_forall_not_mem.2 fun c hc => by
    obtain ⟨-, y, -, hy, -⟩ := hg.parent (hg.mem_childrenOf.1 hc)
    cases hk.symm.trans hy
  rw [hg.subtree_eq, hnil, List.flatMap_nil]

/-- The subtrees of two places of one holder have nothing in common, since its views name windows that
differ (R27). -/
theorem GrantTable.subtree_disjoint (hg : GrantTable s.dir.views) (ha : ViewsAnchored s) {u v : ViewId}
    (hu : u.inRange) (hv : v.inRange) (hh : u.holder = v.holder) (hne : u ≠ v) {j : Nat}
    (hj : j ∈ subtree s.dir.views u.key) : j ∉ subtree s.dir.views v.key := by
  intro hj'
  rcases hx : Table.at? s.dir.views j with _ | x
  · exact hne (ViewId.key_injective hu.selector_lt hv.selector_lt
      ((hg.eq_of_mem_subtree hj hx).symm.trans (hg.eq_of_mem_subtree hj' hx)))
  · obtain ⟨-, hone, -⟩ := ha
    obtain ⟨y, hy, hyw⟩ := hg.window_of_mem_subtree hj hx
    obtain ⟨z, hz, hzw⟩ := hg.window_of_mem_subtree hj' hx
    exact hne (hone u v y z hu hv hh hy hz (hyw.trans hzw.symm))

/-- The views that the close of a slot voids, by their keys, for a list of its selectors (R138). -/
def slotKeys (views : Table View) (h : Holder) (ms : List Nat) : List Nat :=
  ms.flatMap fun m => subtree views (ViewId.key ⟨h, m⟩)

/-- The notices of those views: every holder but the slot is told (R138). -/
def slotViewNotices (views : Table View) (h : Holder) (ms : List Nat) : List Notice :=
  ms.flatMap fun m => parentVoidedNotices
    ((subtree views (ViewId.key ⟨h, m⟩)).filter fun j => !decide ((ViewId.ofKey j).holder = h))

/-- The part with some views voided and some notices posted. -/
def State.voidViews (s : State) (ks : List Nat) (ns : List Notice) : State :=
  ({ s with dir.views := voidKeys s.dir.views ks } : State).postAll ns

theorem voidViews_voidViews (s : State) (ks js : List Nat) (ns ms : List Notice) :
    (s.voidViews ks ns).voidViews js ms = s.voidViews (ks ++ js) (ns ++ ms) := by
  rw [State.voidViews, State.voidViews, State.voidViews, ← voidKeys_voidKeys, ← State.postAll_postAll]
  rfl

/-- The part with the slot's views voided and their holders told. -/
def State.voidSlotViews (s : State) (h : Holder) (ms : List Nat) : State :=
  s.voidViews (slotKeys s.dir.views h ms) (slotViewNotices s.dir.views h ms)

/-- One view voided: where the place is VOID and nothing is granted from it, nothing is voided and none
is told. -/
theorem closeView_eq (hr : Table.rising s.dir.views = true) {h : Holder} {m : Nat} (hm : m < 32)
    (hvoid : s.view? ⟨h, m⟩ = none →
      subtree s.dir.views (ViewId.key ⟨h, m⟩) = [ViewId.key ⟨h, m⟩]) :
    s.closeView h m = s.voidSlotViews h [m] := by
  simp only [State.closeView, State.voidSlotViews, State.voidViews, slotKeys, slotViewNotices,
    List.flatMap_cons, List.flatMap_nil, List.append_nil]
  split
  · rename_i hv
    rw [hvoid hv, voidKeys_singleton hr hv]
    simp [ViewId.ofKey_key ⟨h, m⟩ hm, parentVoidedNotices]
  · rfl

/-- One more of a slot's views is voided as if none had been before it, where the subtrees of the others
do not meet its own. -/
theorem closeView_voidSlotViews (hg : GrantTable s.dir.views) {h : Holder} {ms : List Nat} {m : Nat}
    (hm : ViewId.inRange ⟨h, m⟩)
    (hout : ∀ j ∈ subtree s.dir.views (ViewId.key ⟨h, m⟩), j ∉ slotKeys s.dir.views h ms) :
    (s.voidSlotViews h ms).closeView h m = s.voidSlotViews h (ms ++ [m]) := by
  have hsub : subtree (s.voidSlotViews h ms).dir.views (ViewId.key ⟨h, m⟩)
      = subtree s.dir.views (ViewId.key ⟨h, m⟩) := treeWalk_voidKeys hout
  have hview : (s.voidSlotViews h ms).view? ⟨h, m⟩ = s.view? ⟨h, m⟩ :=
    (at?_voidKeys ..).trans (if_neg (hout _ (List.mem_cons_self ..)))
  have hkeys : slotKeys (s.voidSlotViews h ms).dir.views h [m] = slotKeys s.dir.views h [m] := by
    simp only [slotKeys, List.flatMap_cons, List.flatMap_nil, hsub]
  have hnotices : slotViewNotices (s.voidSlotViews h ms).dir.views h [m]
      = slotViewNotices s.dir.views h [m] := by
    simp only [slotViewNotices, List.flatMap_cons, List.flatMap_nil, hsub]
  calc (s.voidSlotViews h ms).closeView h m
      = (s.voidSlotViews h ms).voidSlotViews h [m] :=
        closeView_eq (Table.rising_filter _ _ hg.rising) hm.selector_lt fun hv =>
          hsub.trans (hg.subtree_void (hview.symm.trans hv))
    _ = (s.voidSlotViews h ms).voidViews (slotKeys s.dir.views h [m])
          (slotViewNotices s.dir.views h [m]) := by
        rw [State.voidSlotViews, hkeys, hnotices]
    _ = s.voidSlotViews h (ms ++ [m]) := by
        rw [State.voidSlotViews, voidViews_voidViews, slotKeys, slotKeys, slotViewNotices,
          slotViewNotices, ← List.flatMap_append, ← List.flatMap_append]
        rfl

/-- The views of a slot voided one after the other are voided as if each were the first (R138). -/
theorem foldl_closeView (hg : GrantTable s.dir.views) (ha : ViewsAnchored s) {h : Holder}
    {ms : List Nat} (hnd : ms.Nodup) (hin : ∀ m ∈ ms, ViewId.inRange ⟨h, m⟩) :
    ms.foldl (fun t m => t.closeView h m) s = s.voidSlotViews h ms := by
  induction ms using List.reverseRecOn with
  | nil => simp [State.voidSlotViews, State.voidViews, slotKeys, slotViewNotices, voidKeys]
  | append_singleton ms m ih =>
    obtain ⟨hnd, -, hdisj⟩ := List.nodup_append.1 hnd
    have hm : ViewId.inRange ⟨h, m⟩ := hin m (by simp)
    have hms : ∀ j ∈ ms, ViewId.inRange ⟨h, j⟩ := fun j hj => hin j (by simp [hj])
    rw [List.foldl_concat, ih hnd hms]
    refine closeView_voidSlotViews hg hm fun j hj hmem => ?_
    obtain ⟨l, hl, hj'⟩ := List.mem_flatMap.1 hmem
    refine hg.subtree_disjoint ha hm (hms l hl) rfl (fun e => ?_) hj hj'
    exact hdisj l hl m (by simp) (congrArg ViewId.selector e).symm

/-- The selectors of an app slot (R22). -/
def appSelectors : List Nat := [1, 2, 3, 4, 5, 6, 7]

theorem selectors_app {slot : Fin 32} (h : slot.val ≠ 0) :
    (List.range (Holder.app slot).selectorRange).map (· + 1) = appSelectors := by
  rw [Holder.selectorRange, if_neg h]
  rfl

/-- Step 1 of the teardown (R138). -/
theorem closeViews_eq (hg : GrantTable s.dir.views) (ha : ViewsAnchored s) {slot : Fin 32}
    (h : slot.val ≠ 0) :
    s.closeViews (.app slot) = s.voidSlotViews (.app slot) appSelectors := by
  rw [State.closeViews, selectors_app h]
  refine foldl_closeView hg ha (by decide) fun m hm => ?_
  rw [← selectors_app h] at hm
  obtain ⟨l, hl, rfl⟩ := List.mem_map.1 hm
  exact ⟨Nat.le_add_left .., List.mem_range.1 hl⟩

theorem at?_voidSlotViews (s : State) (h : Holder) (ms : List Nat) (j : Nat) :
    Table.at? (s.voidSlotViews h ms).dir.views j
      = if (ms.any fun m => decide (j ∈ subtree s.dir.views (ViewId.key ⟨h, m⟩))) = true then none
        else Table.at? s.dir.views j := by
  refine (at?_voidKeys ..).trans ?_
  simp only [slotKeys, List.mem_flatMap, List.any_eq_true, decide_eq_true_eq]

theorem unchangedBut_voidSlotViews (s : State) (h : Holder) (ms : List Nat) :
    UnchangedBut (fun x => x.isNotice ∨ ∃ j, x = .view j) s (s.voidSlotViews h ms) :=
  (unchangedBut_views s _).trans (unchangedBut_postAll _ _) (fun _ => .inr) fun _ => .inl

/-! ### Its windows (step 2) -/

/-- Retirement begun on LIVE windows one after the other retires each of them, and those that are quiet
join the Retire Queue in the order given (R79). -/
theorem retireAll_eq (cause : RetireCause) {ks : List Nat} (hnd : ks.Nodup)
    (hks : ∀ k ∈ ks, ∃ w, s.window? k = some w ∧ w.isLive = true) :
    (∀ j, (s.retireAll cause ks).window? j
        = if j ∈ ks then (s.window? j).map (Window.retired · cause) else s.window? j)
      ∧ (s.retireAll cause ks).retire.queue
          = s.retire.queue ++ ks.filter (fun k => (s.window? k).any Window.quiet) := by
  unfold State.retireAll
  induction ks generalizing s with
  | nil => exact ⟨fun j => by simp, by simp⟩
  | cons k ks ih =>
    obtain ⟨hk, hnd⟩ := List.nodup_cons.1 hnd
    obtain ⟨w, hw, hl⟩ := hks k (List.mem_cons_self ..)
    have hbegin := State.beginRetirement_live cause hw hl
    have hwin (j : Nat) : (s.beginRetirement k cause).window? j
        = if k = j then some (w.retired cause) else s.window? j := by
      rw [hbegin, State.window?_putQueued]
    have hother : ∀ j ∈ ks, (s.beginRetirement k cause).window? j = s.window? j := fun j hj => by
      rw [hwin, if_neg]
      rintro rfl
      exact hk hj
    obtain ⟨h1, h2⟩ := ih hnd fun j hj => by
      rw [hother j hj]
      exact hks j (List.mem_cons_of_mem _ hj)
    rw [List.foldl_cons]
    refine ⟨fun j => ?_, ?_⟩
    · rw [h1]
      by_cases hj : j ∈ ks
      · simp [hj, hother j hj]
      · by_cases hjk : k = j
        · subst hjk
          simp [hj, hwin, hw]
        · simp [hj, hjk, Ne.symm hjk, hwin]
    · have hfilter : ks.filter (fun j => ((s.beginRetirement k cause).window? j).any Window.quiet)
          = ks.filter fun j => (s.window? j).any Window.quiet :=
        List.filter_congr fun j hj => by rw [hother j hj]
      rw [h2, hfilter, hbegin, List.filter_cons, hw, Option.any_some]
      rcases hq : w.quiet <;> simp [State.putQueued]

/-- The beginning of retirement on several windows changes windows and the Retire Queue alone (R79). -/
theorem retireAll_keeps (s : State) (cause : RetireCause) (ks : List Nat) :
    s.retireAll cause ks
      = { s with
          dir.windows := (s.retireAll cause ks).dir.windows
          retire.queue := (s.retireAll cause ks).retire.queue } := by
  unfold State.retireAll
  induction ks generalizing s with
  | nil => rfl
  | cons k ks ih =>
    refine (ih (s.beginRetirement k cause)).trans ?_
    rw [List.foldl_cons]
    generalize ks.foldl (fun t i => t.beginRetirement i cause) (s.beginRetirement k cause) = u
    rw [s.beginRetirement_keeps k cause]

theorem unchangedBut_retireAll (s : State) (cause : RetireCause) (ks : List Nat) :
    UnchangedBut (fun x => (∃ k, x = .window k) ∨ x = .retireQueue) s (s.retireAll cause ks) := by
  rw [retireAll_keeps]
  intro x hx
  cases x
  case window k => exact absurd (.inl ⟨k, rfl⟩) hx
  case retireQueue => exact absurd (.inr rfl) hx
  case reserves => exact ⟨rfl, rfl⟩
  all_goals exact rfl

/-- The windows that the close of a slot retires (R138). -/
def Window.closesWith (h : Holder) (w : Window) : Bool := w.isLive && decide (w.owner = h)

/-- Step 2 of the teardown (R138): the slot's LIVE windows retire, in ascending order of index. -/
theorem closeWindows_eq (hr : Table.rising s.dir.windows = true) (h : Holder) :
    (∀ k, (s.closeWindows h).window? k
        = (s.window? k).map fun w =>
            if w.isLive = true ∧ w.owner = h then w.retired .slotClosed else w)
      ∧ (s.closeWindows h).retire.queue
          = s.retire.queue
              ++ windowsWhere s.dir.windows fun w => w.isLive && decide (w.owner = h) && w.quiet := by
  have hmem := mem_windowsWhere hr (Window.closesWith h)
  have hnd : (windowsWhere s.dir.windows (Window.closesWith h)).Nodup :=
    (windowsWhere_ascending hr (Window.closesWith h)).imp Nat.ne_of_lt
  obtain ⟨h1, h2⟩ := retireAll_eq .slotClosed hnd fun k hk => by
    obtain ⟨w, hw, hc⟩ := (hmem k).1 hk
    exact ⟨w, hw, (Bool.and_eq_true_iff.1 hc).1⟩
  refine ⟨fun k => (h1 k).trans ?_, h2.trans (congrArg _ (filter_windowsWhere hr _ _))⟩
  have hiff (w : Window) : w.closesWith h = true ↔ w.isLive = true ∧ w.owner = h := by
    simp [Window.closesWith]
  rcases hw : s.window? k with _ | w
  · simp
  · have hk : k ∈ windowsWhere s.dir.windows (Window.closesWith h) ↔ w.closesWith h = true :=
      (hmem k).trans ⟨fun ⟨w', hw', hc⟩ => Option.some.inj (hw'.symm.trans hw) ▸ hc,
        fun hc => ⟨w, hw, hc⟩⟩
    simp only [hk, hiff, Option.map_some]
    split <;> rfl

theorem rising_retireAll (cause : RetireCause) (ks : List Nat)
    (hr : Table.rising s.dir.windows = true) :
    Table.rising (s.retireAll cause ks).dir.windows = true := by
  unfold State.retireAll
  induction ks generalizing s with
  | nil => exact hr
  | cons k ks ih =>
    refine ih (s := s.beginRetirement k cause) ?_
    rw [State.beginRetirement_eq]
    split
    · exact hr
    · split
      · exact Table.rising_put _ _ _ hr
      · exact hr

/-- The close of the windows leaves each with its owner. -/
theorem ownsWindow_closeWindows (hr : Table.rising s.dir.windows = true) (h g : Holder) :
    (s.closeWindows h).ownsWindow g = s.ownsWindow g := by
  obtain ⟨h1, -⟩ := closeWindows_eq hr h
  have hmapped : (s.closeWindows h).dir.windows = Table.mapValues (fun w =>
      if w.isLive = true ∧ w.owner = h then w.retired .slotClosed else w) s.dir.windows :=
    Table.eq_of_at? (rising_retireAll _ _ hr) (Table.rising_mapValues _ hr) fun k =>
      (h1 k).trans (Table.at?_mapValues ..).symm
  rw [State.ownsWindow, hmapped, Table.mapValues, List.any_map, State.ownsWindow]
  congr 1
  funext e
  simp only [Function.comp_apply]
  split <;> rfl

/-! ### Its moves (step 3) and its state (step 4) -/

/-- What the close of a slot makes of the Move Queue (R129). -/
def closedQueue (h : Holder) (queue : List MoveRequest) : List MoveRequest :=
  (queue.filter fun r => r.running || decide (r.requester ≠ h)).map fun r =>
    if r.requester = h then { r with closeMark := true } else r

/-- The notices of the waiting requests that leave (R129). -/
def abortNotices (h : Holder) (queue : List MoveRequest) : List Notice :=
  (queue.filter fun r => !r.running && decide (r.requester = h)).map fun r =>
    Notice.moveDone h r.reference .aborted 0 0

theorem closeMoves_eq (s : State) (h : Holder) : s.closeMoves h
    = ({ s with move.queue := closedQueue h s.move.queue } : State).postAll
        (abortNotices h s.move.queue) := by
  have hkept : (fun r : MoveRequest => !(decide (r.requester = h) && !r.running))
      = fun r => r.running || decide (r.requester ≠ h) := by
    funext r
    cases r.running <;> simp
  have hleft : (fun r : MoveRequest => decide (r.requester = h) && !r.running)
      = fun r => !r.running && decide (r.requester = h) := funext fun r => Bool.and_comm ..
  simp only [State.closeMoves, hkept, hleft, closedQueue, abortNotices]

/-- The notice of a close that is complete at once (R138, R140). -/
def closeNotices (owns : Bool) (slot : Nat) : List Notice :=
  if owns then [] else [Notice.slotClosed slot]

theorem closeState_eq (s : State) (slot : Nat) (h : Holder) : s.closeState slot h
    = (s.setSlot slot (if s.ownsWindow h then .closing else .closed)).postAll
        (closeNotices (s.ownsWindow h) slot) := by
  unfold State.closeState closeNotices
  split <;> rfl

/-! ### CLOSE SLOT -/

/-- What is posted by the four steps is posted, and the answer posts nothing. -/
theorem posted_answer_of_ports {ns : List Notice} (h : t.ports = ns.foldl Ports.post s.ports)
    (i : PortId) (code : ResultCode) (detail : List Byte) : Posted s (t.answer i code detail) ns := by
  have ht : ({ t with ports := s.ports } : State).postAll ns = t := by
    rw [State.postAll, ← h]
  have hp := posted_answer (s := s) (u := { t with ports := s.ports }) rfl ns i code detail
  rwa [ht] at hp

/-- The part after the first two steps of a teardown (R138). -/
def State.cleared (s : State) (h : Holder) : State :=
  (s.voidSlotViews h appSelectors).closeWindows h

theorem cleared_keeps (s : State) (h : Holder) :
    s.cleared h
      = { s.voidSlotViews h appSelectors with
          dir.windows := (s.cleared h).dir.windows
          retire.queue := (s.cleared h).retire.queue } := retireAll_keeps ..

/-- The four steps of the teardown (R138). -/
theorem teardown_eq (hg : GrantTable s.dir.views) (ha : ViewsAnchored s)
    (hr : Table.rising s.dir.windows = true) {n : Nat} (h1 : 1 ≤ n) (hn : n ≤ 31) {h : Holder}
    (hh : h = .app (Fin.ofNat 32 n)) :
    s.teardown n
      = ((({ s.cleared h with move.queue := closedQueue h s.move.queue } : State).postAll
          (abortNotices h s.move.queue)).setSlot n
            (if s.ownsWindow h then .closing else .closed)).postAll
        (closeNotices (s.ownsWindow h) n) := by
  have hslot : (Fin.ofNat 32 n).val ≠ 0 := by
    rw [val_ofNat_slot hn]
    omega
  have howns : (s.cleared h).ownsWindow h = s.ownsWindow h :=
    ownsWindow_closeWindows (s := s.voidSlotViews h appSelectors) hr h h
  have hqueue : (s.cleared h).move.queue = s.move.queue := by
    rw [cleared_keeps]
    rfl
  rw [State.teardown, ← hh, hh, closeViews_eq hg ha hslot, ← hh, ← State.cleared, closeMoves_eq,
    closeState_eq, hqueue, ← howns]
  rfl

theorem unchangedBut_cleared (s : State) (h : Holder) :
    UnchangedBut (fun x => x.isNotice ∨ (∃ j, x = .view j) ∨ (∃ k, x = .window k) ∨ x = .retireQueue) s
      (s.cleared h) :=
  (unchangedBut_voidSlotViews s h _).trans (unchangedBut_retireAll _ _ _)
    (fun _ hx => hx.imp_right .inl) fun _ hx => .inr (.inr hx)

/-- The teardown leaves what its four steps leave (R138). -/
theorem unchangedBut_torn (s : State) (h : Holder) (queue : List MoveRequest) (ns ms : List Notice)
    (n : Nat) (x : SlotState) :
    UnchangedBut (fun x => x.isNotice ∨ (∃ j, x = .view j) ∨ (∃ k, x = .window k) ∨ x = .retireQueue
        ∨ x = .moveQueue ∨ x = .slot n) s
      (((({ s.cleared h with move.queue := queue } : State).postAll ns).setSlot n x).postAll ms) := by
  have hmoves : UnchangedBut (fun x => x.isNotice ∨ x = .moveQueue) (s.cleared h)
      (({ s.cleared h with move.queue := queue } : State).postAll ns) :=
    (unchangedBut_moveQueue _ queue).trans (unchangedBut_postAll _ ns) (fun _ => .inr) fun _ => .inl
  have hslot (u : State) : UnchangedBut (fun x => x.isNotice ∨ x = .slot n) u
      ((u.setSlot n x).postAll ms) :=
    (unchangedBut_setSlot u n x).trans (unchangedBut_postAll _ ms) (fun _ => .inr) fun _ => .inl
  have hlate := hmoves.trans (hslot _) (r := fun x => x.isNotice ∨ x = .moveQueue ∨ x = .slot n)
    (fun _ hx => hx.imp_right .inl) fun _ hx => hx.imp_right .inr
  refine (unchangedBut_cleared s h).trans hlate (fun _ hx => ?_) fun _ hx => ?_
  · exact hx.imp_right fun hx => hx.imp_right fun hx => hx.imp_right .inl
  · exact hx.imp_right fun hx => .inr (.inr (.inr hx))

/-- Settles O31: the subtrees of the slot's views have nothing in common and no window is retired twice,
so the four steps do together what each does alone. -/
theorem closeSlotTearsDown : Obligations.CloseSlotTearsDown := by
  intro n s h hh
  refine ⟨fun i => refused_of_onAPort rfl, fun hi =>
    ⟨fun _ => refused_of_mirrors hi rfl (mirrors_checkCloseSlot n s), fun hg ha hr hc => ?_⟩⟩
  obtain ⟨k, hk, he⟩ := acts_of_mirrors (c := .closeSlot .aPort n) hi rfl
    (mirrors_checkCloseSlot n s) hc
  obtain ⟨rfl, h1, hn⟩ := checkCloseSlot_ok hk
  obtain ⟨hwindows, hqueue⟩ := closeWindows_eq (s := s.voidSlotViews h appSelectors) hr h
  rw [← hh, teardown_eq (grantTrees_iff.1 hg) ha hr h1 hn hh] at he
  refine ⟨_, he, by simp [State.answered], fun j => ?_, hwindows, hqueue, rfl, ?_, ?_, ?_⟩
  · refine Eq.trans ?_ (at?_voidSlotViews s h appSelectors j)
    rw [cleared_keeps]
    rfl
  · exact (State.slot_setSlot _ _ _ _).trans (if_pos rfl)
  · refine posted_answer_of_ports ?_ .aPort .ok _
    simp only [ne_eq, decide_not]
    rw [cleared_keeps]
    simp only [State.postAll, List.foldl_append]
    rfl
  · refine (unchangedBut_torn s h _ _ _ n.toNat _).answer (fun _ hx => ?_) ?_
    · exact hx.imp_right fun hx => hx.imp_right fun hx => hx.imp_right fun hx =>
        hx.imp_right fun hx => hx.imp_right .inl
    · exact .inr (.inr (.inr (.inr (.inr (.inr rfl)))))

end Sys2Proof.Machine
end

section
/-! SUPPORT. The frame of a command, both ways: what the judgement makes of a request that the encoder
wrote (R157, R158, R159), and that the layout of each request is read as it was written (R174).
-/

namespace Sys2Proof.Machine

variable {p : PortId} {code : Byte} {body : List Byte}

/-! ### Fields of several bytes -/

/-- A two-byte field is read as it was written (chapter 12). -/
@[simp] theorem word2_extract (x : BitVec 16) :
    Frame.word2 (x.extractLsb' 8 8) (x.extractLsb' 0 8) = x := by
  rw [Frame.word2, BitVec.extractLsb'_append_extractLsb'_eq_extractLsb' (by rfl)]
  exact BitVec.extractLsb'_eq_self

/-- A three-byte field is read as it was written (chapter 12). -/
@[simp] theorem word3_extract (x : BitVec 24) :
    Frame.word3 (x.extractLsb' 16 8) (x.extractLsb' 8 8) (x.extractLsb' 0 8) = x := by
  rw [Frame.word3, BitVec.extractLsb'_append_extractLsb'_eq_extractLsb' (by rfl),
    BitVec.extractLsb'_append_extractLsb'_eq_extractLsb' (by rfl)]
  exact BitVec.extractLsb'_eq_self

/-- Two bytes that are read as a value are those that the value is written as. -/
theorem bytes2_word2 (hi lo : Byte) : Frame.bytes2 (Frame.word2 hi lo) = [hi, lo] :=
  congrArg₂ (fun a b : Byte => [a, b]) BitVec.extractLsb'_append_eq_left
    BitVec.extractLsb'_append_eq_right

/-! ### The judgement of a request's bytes -/

/-- A request before its frame check (R157). -/
def requestHead (code : Byte) (body : List Byte) : List Byte :=
  code :: (Frame.bytes2 (BitVec.ofNat 16 body.length) ++ body)

theorem ofRequest_eq (code : Byte) (body : List Byte) :
    Frame.ofRequest code body
      = requestHead code body ++ Frame.bytes2 (Frame.crc16 (requestHead code body)) := rfl

theorem dropLast_dropLast_ofRequest (code : Byte) (body : List Byte) :
    (Frame.ofRequest code body).dropLast.dropLast = requestHead code body := by
  simp [ofRequest_eq, Frame.bytes2]

/-- A request is judged by its check bytes, and by its code and body where they are right, whatever
follows them (R157, R158, R159). -/
theorem judge_requestHead (h : body.length < 65536) (k1 k0 : Byte) (past : List Byte) :
    Frame.judge p (requestHead code body ++ k1 :: k0 :: past)
      = if Frame.word2 k1 k0 = Frame.crc16 (requestHead code body) then
          Frame.commandOf p code.toNat body
        else .frame := by
  have hlen : (BitVec.ofNat 16 body.length).toNat = body.length := Nat.mod_eq_of_lt h
  change Frame.judge p (code :: _ :: _ :: (body ++ k1 :: k0 :: past)) = _
  rw [Frame.judge]
  simp only [word2_extract, hlen, List.take_left, List.drop_left]
  rfl

/-- A frame that ends before its second check byte is no whole request (R157). -/
theorem judge_incomplete {l1 l0 : Byte} {rest : List Byte}
    (h : rest.length < (Frame.word2 l1 l0).toNat + 2) :
    Frame.judge p (code :: l1 :: l0 :: rest) = .incomplete := by
  have hlen : (rest.drop (Frame.word2 l1 l0).toNat).length < 2 := by
    rw [List.length_drop]
    omega
  rw [Frame.judge]
  generalize rest.drop (Frame.word2 l1 l0).toNat = checks at hlen
  rcases checks with _ | ⟨k1, _ | ⟨k0, past⟩⟩
  · rfl
  · rfl
  · simp only [List.length_cons] at hlen
    omega

theorem judge_take_ofRequest (h : body.length < 65536) {n : Nat}
    (hn : n < (Frame.ofRequest code body).length) :
    Frame.judge p ((Frame.ofRequest code body).take n) = .incomplete := by
  have hlen : (BitVec.ofNat 16 body.length).toNat = body.length := Nat.mod_eq_of_lt h
  match n with
  | 0 => rfl
  | 1 => rfl
  | 2 => rfl
  | n + 3 =>
    refine judge_incomplete ?_
    rw [word2_extract, hlen]
    simp [ofRequest_eq, requestHead, Frame.bytes2] at hn ⊢
    omega

/-- What the judgement makes of a request that the encoder wrote (R157, R158, R159). -/
theorem judge_ofRequest {c : Instr} (h : body.length < 65536)
    (hc : Frame.commandOf p code.toNat body = .taken c) (past : List Byte) :
    Frame.judge p (Frame.ofRequest code body ++ past) = .taken c := by
  rw [ofRequest_eq, List.append_assoc]
  refine (judge_requestHead h _ _ past).trans ?_
  rw [word2_extract, if_pos rfl, hc]

/-- Any other check bytes are judged FRAME (R157). -/
theorem judge_wrongCheck (h : body.length < 65536) {k1 k0 : Byte}
    (hk : [k1, k0] ≠ Frame.bytes2 (Frame.crc16 (requestHead code body))) :
    Frame.judge p (requestHead code body ++ [k1, k0]) = .frame := by
  rw [judge_requestHead h, if_neg]
  intro e
  rw [← e, bytes2_word2] at hk
  exact hk rfl

/-! ### The layouts of the requests -/

theorem bodyLoadStaging_request (column count : BitVec 16) {payload : List Byte}
    (h : payload.length = count.toNat) :
    Frame.bodyLoadStaging p (Frame.bytes2 column ++ Frame.bytes2 count ++ payload)
      = some (.loadStaging p column count payload) := by
  simp [Frame.bodyLoadStaging, Frame.bytes2, h]

theorem bodyReadStaging_request (column count : BitVec 16) :
    Frame.bodyReadStaging p (Frame.bytes2 column ++ Frame.bytes2 count)
      = some (.readStaging p column count) := by
  simp [Frame.bodyReadStaging, Frame.bytes2]

theorem bodyTransfer_request (f : TransferParams → Instr) (a : TransferParams) :
    Frame.bodyTransfer f ([a.selector, a.bank] ++ Frame.bytes2 a.offset ++ Frame.bytes2 a.column
      ++ Frame.bytes2 a.count) = some (f a) := by
  simp [Frame.bodyTransfer, Frame.bytes2]

theorem bodyMove_request (a : MoveParams) :
    Frame.bodyMove p ([a.srcSelector, a.srcBank] ++ Frame.bytes2 a.srcOffset
      ++ [a.dstSelector, a.dstBank] ++ Frame.bytes2 a.dstOffset ++ Frame.bytes3 a.count
      ++ [a.mode, a.fillUnit, a.reference]) = some (.move p a) := by
  simp [Frame.bodyMove, Frame.bytes2, Frame.bytes3]

theorem bodyOpenWindow_request (a : OpenParams) :
    Frame.bodyOpenWindow p ([a.cls, a.unit, a.bankCount] ++ Frame.bytes3 a.length0
      ++ Frame.bytes3 a.length1 ++ Frame.bytes2 a.lifetime ++ [a.line, a.action])
      = some (.openWindow p a) := by
  simp [Frame.bodyOpenWindow, Frame.bytes2, Frame.bytes3]

theorem bodyRenew_request (selector : Byte) (ticks : BitVec 16) :
    Frame.bodyRenew p (selector :: Frame.bytes2 ticks) = some (.renew p selector ticks) := by
  simp [Frame.bodyRenew, Frame.bytes2]

theorem bodyStageLimit_request (selector : Byte) (limit : BitVec 24) :
    Frame.bodyStageLimit p (selector :: Frame.bytes3 limit) = some (.stageLimit p selector limit) := by
  simp [Frame.bodyStageLimit, Frame.bytes3]

theorem bodySetPools_request (nReserve pReserve : BitVec 16) :
    Frame.bodySetPools p (Frame.bytes2 nReserve ++ Frame.bytes2 pReserve)
      = some (.setPools p nReserve pReserve) := by
  simp [Frame.bodySetPools, Frame.bytes2]

theorem bodySetQuota_request (cls windows : Byte) (pages : BitVec 16) :
    Frame.bodySetQuota p ([cls, windows] ++ Frame.bytes2 pages)
      = some (.setQuota p cls windows pages) := by
  simp [Frame.bodySetQuota, Frame.bytes2]

/-! ### Every command -/

/-- The port knows the command code: the codes of the app slots are known to the A-port alone (R131). -/
def KnowsCode (p : PortId) (code : Byte) : Prop :=
  ¬(p ≠ .aPort ∧ (code = 0x30#8 ∨ code = 0x31#8 ∨ code = 0x32#8))

/-- A LOAD STAGING carries as many payload bytes as it counts (R158). -/
def PayloadCounted (c : Instr) : Prop :=
  ∀ j column count payload, c = .loadStaging j column count payload → payload.length = count.toNat

theorem KnowsCode.aPort (h : KnowsCode p code) (hc : code = 0x30#8 ∨ code = 0x31#8 ∨ code = 0x32#8) :
    p = .aPort :=
  by_contra fun hp => h ⟨hp, hc⟩

/-- The request of a command is read as that command by a port that knows its code (R174). -/
theorem commandOf_request {c : Instr} (h : c.request = some (p, code, body)) (hp : PayloadCounted c)
    (hk : KnowsCode p code) : Frame.commandOf p code.toNat body = .taken c := by
  cases c
  case loadStaging q column count payload =>
    cases h
    exact congrArg Frame.fixed (bodyLoadStaging_request column count (hp _ column count payload rfl))
  case readStaging q column count =>
    cases h
    exact congrArg Frame.fixed (bodyReadStaging_request column count)
  case put q a =>
    cases h
    exact congrArg Frame.fixed (bodyTransfer_request (.put p) a)
  case fetch q a =>
    cases h
    exact congrArg Frame.fixed (bodyTransfer_request (.fetch p) a)
  case move q a =>
    cases h
    exact congrArg Frame.fixed (bodyMove_request a)
  case openWindow q a =>
    cases h
    exact congrArg Frame.fixed (bodyOpenWindow_request a)
  case renew q selector ticks =>
    cases h
    exact congrArg Frame.fixed (bodyRenew_request selector ticks)
  case stageLimit q selector limit =>
    cases h
    exact congrArg Frame.fixed (bodyStageLimit_request selector limit)
  case setPools q nReserve pReserve =>
    cases h
    exact congrArg Frame.fixed (bodySetPools_request nReserve pReserve)
  case setQuota q cls windows pages =>
    cases h
    exact congrArg Frame.fixed (bodySetQuota_request cls windows pages)
  case selectApp q slot =>
    cases h
    cases hk.aPort (.inl rfl)
    rfl
  case openSlot q slot =>
    cases h
    cases hk.aPort (.inr (.inl rfl))
    rfl
  case closeSlot q slot =>
    cases h
    cases hk.aPort (.inr (.inr rfl))
    rfl
  case readStatus | readNotice | portReset | clearStaging | grantView | narrowView | dropView
      | describeView | retireWindow | swapBanks | setLine | lockPolicy | clearTamper =>
    cases h
    rfl
  all_goals cases h

/-- The codes of the app slots are unknown to the P-port and the N-port (R131). -/
theorem commandOf_unknown (hk : p ≠ .aPort ∧ (code = 0x30#8 ∨ code = 0x31#8 ∨ code = 0x32#8)) :
    Frame.commandOf p code.toNat body = .unknown := by
  obtain ⟨hp, rfl | rfl | rfl⟩ := hk <;> exact if_neg hp

/-- Settles O50: a frame's judgement comes down to what its code and its body are read as, and each
layout is read as it was written. -/
theorem frameRoundTrip : Obligations.FrameRoundTrip := by
  constructor
  · rintro c i code body past ⟨code', body', hreq', hc⟩ hreq hlen
    cases hreq.symm.trans hreq'
    refine ⟨judge_ofRequest hlen hc past, fun _ => judge_take_ofRequest hlen, fun k1 k0 hk => ?_⟩
    rw [dropLast_dropLast_ofRequest] at hk ⊢
    exact judge_wrongCheck hlen hk
  · intro c i code body hreq hp
    split
    · exact commandOf_unknown ‹_›
    · exact ⟨code, body, hreq, commandOf_request hreq hp ‹_›⟩

end Sys2Proof.Machine
end

section
/-! SUPPORT. The Event Unit: an edge at the detector and the line events that wait (R144, R145).
-/

namespace Sys2Proof.Machine

variable {s : State} {line : Nat} {role : LineRole} {before after : List LineEvent}

/-! ### Edges -/

/-- The edges that qualify under each mode (R144). -/
theorem EdgeMode.qualifies_iff (m : EdgeMode) (level : Bool) :
    m.qualifies level = true
      ↔ m = .either ∨ (m = .rising ∧ level = true) ∨ (m = .falling ∧ level = false) := by
  cases m <;> simp [EdgeMode.qualifies]

theorem LineRole.ne_unused_iff (r : LineRole) : r ≠ .unused ↔ r = .bindable ∨ r = .tamper := by
  cases r <;> simp

theorem EventUnit.level_store (e : EventUnit) (n : Nat) (level : Bool) (waiting : List LineEvent)
    (m : Nat) :
    EventUnit.level { e with levels := Table.store false e.levels n level, lineEvents := waiting } m
      = if m = n then level else e.level m := Table.value_store ..

theorem unchangedBut_edge (s : State) (n : Nat) (level : Bool) (waiting : List LineEvent) :
    UnchangedBut (fun x => x = .lineLevel n ∨ x = .lineEvents) s
      { s with
        events.levels := Table.store false s.events.levels n level
        events.lineEvents := waiting } := by
  intro x hx
  cases x
  case lineLevel m =>
    have hne : m ≠ n := fun e => hx (.inl (by rw [e]))
    exact (s.events.level_store n level waiting m).trans (if_neg hne)
  case lineEvents => exact absurd (.inr rfl) hx
  case reserves => exact ⟨rfl, rfl⟩
  all_goals exact rfl

theorem exec_lineEdge {line : Fin 8} {level : Bool} (h : s.events.level line.val ≠ level) :
    exec (.lineEdge line level) s = .next { s with
      events.levels := Table.store false s.events.levels line.val level
      events.lineEvents :=
        if s.policy.phase = .running ∧ (s.policy.line line.val).role ≠ .unused
            ∧ (s.policy.line line.val).mode.qualifies level = true then
          s.events.lineEvents ++ [⟨line.val, (s.policy.line line.val).role⟩]
        else s.events.lineEvents } :=
  congrArg Host.Outcome.next (if_neg h)

/-- Settles O34: the detector takes the level, and its test of an edge and of the line's role is that of
R144 and R145. -/
theorem lineEdgeDelivers : Obligations.LineEdgeDelivers := by
  rintro line level s c hedge rfl
  refine ⟨_, exec_lineEdge hedge, ?_, ?_, unchangedBut_edge s line.val level _⟩
  · exact (s.events.level_store line.val level _ line.val).trans (if_pos rfl)
  · simp only [EdgeMode.qualifies_iff, LineRole.ne_unused_iff]
    split <;> simp

/-! ### Waiting line events -/

/-- The first of a line's waiting events is the one due (R145). -/
theorem EventUnit.isDue_of_waiting {e : EventUnit}
    (h : e.lineEvents = before ++ ⟨line, role⟩ :: after) (hb : ∀ x ∈ before, x.line ≠ line) :
    e.isDue line role = true := by
  have hnone : before.find? (fun x => decide (x.line = line)) = none :=
    List.find?_eq_none.2 fun x hx => by simpa using hb x hx
  simp [EventUnit.isDue, h, List.find?_append, hnone]

/-- The taking of a line event takes the first of that line alone (R145). -/
theorem lineEvents_takeLineEvent (h : s.events.lineEvents = before ++ ⟨line, role⟩ :: after)
    (hb : ∀ x ∈ before, x.line ≠ line) :
    (s.takeLineEvent line).events.lineEvents = before ++ after := by
  have hskip : ∀ x ∈ before, ¬decide (x.line = line) = true := fun x hx => by simpa using hb x hx
  rw [State.takeLineEvent, h, List.eraseP_append_right _ hskip, List.eraseP_cons_of_pos (by simp)]

theorem unchangedBut_takeLineEvent (s : State) (line : Nat) :
    UnchangedBut (· = .lineEvents) s (s.takeLineEvent line) := by
  intro x hx
  cases x
  case lineEvents => exact absurd rfl hx
  case reserves => exact ⟨rfl, rfl⟩
  all_goals exact rfl

end Sys2Proof.Machine
end

section
/-! SUPPORT. A line event of a BINDABLE line: what it does to one window, to several one after the other,
and over the whole Window Table (R146).
-/

namespace Sys2Proof.Machine

variable {s : State} {line : Nat}

/-- A window after an event of the line that it may be bound to (R146). -/
def Window.onLine (line : Nat) (w : Window) : Window :=
  if w.isLive = true ∧ w.binding = some ⟨line, .retire⟩ then w.retired .line
  else if w.isLive = true ∧ w.binding = some ⟨line, .swap⟩ then
    if w.quiet then { w with live := w.live.other, swapPending := none }
    else { w with swapPending := w.swapPending.or (some .line) }
  else w

/-- A window that joins the Retire Queue at an event of the line (R79, R146). -/
def Window.joinsOnLine (line : Nat) (w : Window) : Bool :=
  w.isLive && decide (w.binding = some ⟨line, .retire⟩) && w.quiet

/-- A window whose banks are exchanged at an event of the line (R68, R146). -/
def Window.swapsOnLine (line : Nat) (w : Window) : Bool :=
  w.isLive && decide (w.binding = some ⟨line, .swap⟩) && w.quiet

/-- The SWAP_DONE notices of a window whose banks are exchanged at a line event (R66). -/
def lineSwapNotices (s : State) (k : Nat) : List Notice :=
  ((s.window? k).map fun w =>
    exchangeNotices s k { w with live := w.live.other, swapPending := none } .line).getD []

theorem Window.isLiveBound_iff (w : Window) (line : Nat) :
    w.isLiveBound line = true
      ↔ w.isLive = true ∧ (w.binding = some ⟨line, .retire⟩ ∨ w.binding = some ⟨line, .swap⟩) := by
  rcases hb : w.binding with _ | ⟨n, a⟩
  · simp [Window.isLiveBound, hb]
  · cases a <;> simp [Window.isLiveBound, hb]

/-- An event of the line does nothing to the window. -/
structure Window.PassedOver (line : Nat) (w : Window) : Prop where
  same : w.onLine line = w
  joins : w.joinsOnLine line = false
  swaps : w.swapsOnLine line = false

/-- A window that is not LIVE and bound to the line is passed over (R146). -/
theorem Window.passedOver_of_not_bound {w : Window} (h : w.isLiveBound line = false) :
    w.PassedOver line := by
  have hnot := mt (w.isLiveBound_iff line).2 (Bool.eq_false_iff.1 h)
  have hretire : ¬(w.isLive = true ∧ w.binding = some ⟨line, .retire⟩) :=
    fun ⟨hl, hb⟩ => hnot ⟨hl, .inl hb⟩
  have hswap : ¬(w.isLive = true ∧ w.binding = some ⟨line, .swap⟩) :=
    fun ⟨hl, hb⟩ => hnot ⟨hl, .inr hb⟩
  refine ⟨(if_neg hretire).trans (if_neg hswap), ?_, ?_⟩
  · simpa [Window.joinsOnLine] using fun hl hb => absurd ⟨hl, hb⟩ hretire
  · simpa [Window.swapsOnLine] using fun hl hb => absurd ⟨hl, hb⟩ hswap

theorem Window.onLine_retire {w : Window} (hl : w.isLive = true)
    (hb : w.binding = some ⟨line, .retire⟩) :
    w.onLine line = w.retired .line ∧ w.joinsOnLine line = w.quiet ∧ w.swapsOnLine line = false :=
  ⟨if_pos ⟨hl, hb⟩, by simp [Window.joinsOnLine, hl, hb], by simp [Window.swapsOnLine, hb]⟩

theorem Window.onLine_swap {w : Window} (hl : w.isLive = true)
    (hb : w.binding = some ⟨line, .swap⟩) :
    w.onLine line
        = (if w.quiet then { w with live := w.live.other, swapPending := none }
          else { w with swapPending := w.swapPending.or (some .line) })
      ∧ w.joinsOnLine line = false ∧ w.swapsOnLine line = w.quiet :=
  ⟨(if_neg (by simp [hb])).trans (if_pos ⟨hl, hb⟩), by simp [Window.joinsOnLine, hb],
    by simp [Window.swapsOnLine, hl, hb]⟩

/-! ### One window -/

/-- An exchange request from a line leaves all as it is, or it writes the window and the notices of the
exchange (R68). -/
theorem requestExchange_cases {k : Nat} {w : Window} (hw : s.window? k = some w) (hl : w.isLive = true)
    (hb : w.binding = some ⟨line, .swap⟩) :
    (s.requestExchange k w .line = s ∧ w.PassedOver line)
      ∨ s.requestExchange k w .line
        = (s.putQueued k (w.onLine line) (w.joinsOnLine line)).postAll
            (if w.swapsOnLine line then lineSwapNotices s k else []) := by
  obtain ⟨hon, hjoins, hswaps⟩ := Window.onLine_swap hl hb
  rw [State.requestExchange]
  rcases hq : w.quiet <;> rw [hq] at hon hswaps
  · rcases hp : w.swapPending with _ | first
    · rw [hp] at hon
      rw [hon, hjoins, hswaps, State.putQueued_false]
      exact .inr rfl
    · have hfirst : w.swapPending.or (some .line) = w.swapPending := by
        rw [hp]
        rfl
      rw [hfirst] at hon
      exact .inl ⟨rfl, hon, hjoins, hswaps⟩
  · rw [hon, hjoins, hswaps, State.putQueued_false, lineSwapNotices, hw]
    exact .inr rfl

/-- A line event passes the window over, or it writes the window, the Retire Queue where the window joins
it, and the notices of an exchange. -/
theorem lineAction_cases {k : Nat} {w : Window} (hw : s.window? k = some w) :
    (s.lineAction line k = s ∧ w.PassedOver line)
      ∨ s.lineAction line k
        = (s.putQueued k (w.onLine line) (w.joinsOnLine line)).postAll
            (if w.swapsOnLine line then lineSwapNotices s k else []) := by
  rcases hbound : w.isLiveBound line
  · exact .inl ⟨by simp [State.lineAction, hw, hbound], Window.passedOver_of_not_bound hbound⟩
  · obtain ⟨hl, hb | hb⟩ := (w.isLiveBound_iff line).1 hbound
    · obtain ⟨hon, hjoins, hswaps⟩ := Window.onLine_retire hl hb
      have he : s.lineAction line k = s.beginRetirement k .line := by
        simp [State.lineAction, hw, hbound, hb]
      rw [he, State.beginRetirement_live .line hw hl, hon, hjoins, hswaps]
      exact .inr rfl
    · have he : s.lineAction line k = s.requestExchange k w .line := by
        simp [State.lineAction, hw, hbound, hb]
      rw [he]
      exact requestExchange_cases hw hl hb

/-- What a line event does to the part at one window (R146). -/
structure LineActed (s : State) (line k : Nat) (t : State) : Prop where
  window : ∀ j, t.window? j = if j = k then (s.window? k).map (Window.onLine line) else s.window? j
  queue : t.retire.queue
    = s.retire.queue ++ if (s.window? k).any (Window.joinsOnLine line) then [k] else []
  ports : t.ports
    = (if (s.window? k).any (Window.swapsOnLine line) then lineSwapNotices s k else []).foldl
        Ports.post s.ports
  views : t.dir.views = s.dir.views
  frame : UnchangedBut (fun x => x.isNotice ∨ (∃ j, x = .window j) ∨ x = .retireQueue) s t

/-- A line event that passes over the window leaves the part as it is. -/
theorem LineActed.idle {k : Nat} (h : ∀ w, s.window? k = some w → w.PassedOver line) :
    LineActed s line k s := by
  have hmap : (s.window? k).map (Window.onLine line) = s.window? k := by
    rcases hw : s.window? k with _ | w
    · rfl
    · rw [Option.map_some, (h w hw).same]
  have hjoins : (s.window? k).any (Window.joinsOnLine line) = false :=
    (Option.any_eq_false_iff_get _ _).2 fun hs => (h _ (Option.some_get hs).symm).joins
  have hswaps : (s.window? k).any (Window.swapsOnLine line) = false :=
    (Option.any_eq_false_iff_get _ _).2 fun hs => (h _ (Option.some_get hs).symm).swaps
  refine ⟨fun j => ?_, by simp [hjoins], by simp [hswaps], rfl, .refl _ s⟩
  rw [hmap]
  split
  · rename_i hj
    rw [hj]
  · rfl

theorem lineAction_acted (s : State) (line k : Nat) : LineActed s line k (s.lineAction line k) := by
  rcases hw : s.window? k with _ | w
  · have he : s.lineAction line k = s := by simp [State.lineAction, hw]
    rw [he]
    exact .idle fun w h => by cases hw.symm.trans h
  · rcases lineAction_cases hw with ⟨he, hidle⟩ | he
    · rw [he]
      exact .idle fun v h => by cases hw.symm.trans h; exact hidle
    · rw [he]
      refine ⟨fun j => ?_, by rw [hw]; rfl, by rw [hw]; rfl, rfl, ?_⟩
      · refine (State.window?_putQueued s k j _ (w.joinsOnLine line)).trans ?_
        simp only [hw, Option.map_some, eq_comm]
      · refine (unchangedBut_putQueued s k _ _).trans (unchangedBut_postAll _ _) ?_ fun _ => .inl
        exact fun x hx => .inr (hx.imp_left fun e => ⟨k, e⟩)

/-! ### Several windows -/

/-- The notices of an exchange see nothing of the part but the window and the View Table (R66). -/
theorem lineSwapNotices_congr {t : State} {k : Nat} (hw : t.window? k = s.window? k)
    (hv : t.dir.views = s.dir.views) : lineSwapNotices t k = lineSwapNotices s k := by
  simp only [lineSwapNotices, exchangeNotices, hw, hv]

/-- A line event on distinct windows one after the other acts on each of them as it stood before, and the
Retire Queue and the notices grow in the order given. -/
theorem lineActions_eq {ks : List Nat} (hnd : ks.Nodup) (s : State) (line : Nat) :
    let t := ks.foldl (fun t k => t.lineAction line k) s
    (∀ j, t.window? j
        = if j ∈ ks then (s.window? j).map (Window.onLine line) else s.window? j)
      ∧ t.retire.queue
        = s.retire.queue ++ ks.filter (fun k => (s.window? k).any (Window.joinsOnLine line))
      ∧ t.ports
        = ((ks.filter fun k => (s.window? k).any (Window.swapsOnLine line)).flatMap
            (lineSwapNotices s)).foldl Ports.post s.ports
      ∧ UnchangedBut (fun x => x.isNotice ∨ (∃ k, x = .window k) ∨ x = .retireQueue) s t := by
  induction ks generalizing s with
  | nil => exact ⟨fun j => by simp, by simp, rfl, .refl _ s⟩
  | cons k ks ih =>
    obtain ⟨hk, hnd⟩ := List.nodup_cons.1 hnd
    obtain ⟨hwindow, hqueue, hports, hviews, hframe⟩ := lineAction_acted s line k
    have hother : ∀ j ∈ ks, (s.lineAction line k).window? j = s.window? j := fun j hj => by
      rw [hwindow, if_neg]
      rintro rfl
      exact hk hj
    obtain ⟨h1, h2, h3, h4⟩ := ih hnd (s.lineAction line k)
    have hfilter (p : Window → Bool) : ks.filter (fun j => ((s.lineAction line k).window? j).any p)
        = ks.filter fun j => (s.window? j).any p :=
      List.filter_congr fun j hj => by rw [hother j hj]
    simp only [List.foldl_cons]
    refine ⟨fun j => ?_, ?_, ?_, hframe.trans h4 (fun _ => id) fun _ => id⟩
    · rw [h1]
      by_cases hj : j ∈ ks
      · simp [hj, hother j hj]
      · by_cases hjk : j = k
        · subst hjk
          simp [hj, hwindow]
        · simp [hj, hjk, hwindow]
    · rw [h2, hfilter, hqueue, List.append_assoc, List.filter_cons]
      rcases (s.window? k).any (Window.joinsOnLine line) <;> rfl
    · have hnotices : ((ks.filter fun j => (s.window? j).any (Window.swapsOnLine line)).flatMap
            (lineSwapNotices (s.lineAction line k)))
          = (ks.filter fun j => (s.window? j).any (Window.swapsOnLine line)).flatMap
            (lineSwapNotices s) :=
        List.flatMap_congr fun j hj =>
          lineSwapNotices_congr (hother j (List.mem_filter.1 hj).1) hviews
      rw [h3, hfilter, hnotices, hports, List.filter_cons]
      rcases (s.window? k).any (Window.swapsOnLine line)
      · rfl
      · exact (List.foldl_append ..).symm.trans (by rw [if_pos rfl, if_pos rfl, List.flatMap_cons])

/-! ### The whole table -/

theorem windowsWhere_nodup {t : Table Window} (h : Table.rising t = true) (p : Window → Bool) :
    (windowsWhere t p).Nodup := (windowsWhere_ascending h p).imp Nat.ne_of_lt

/-- What is done to the windows that meet a condition is done to every window that meets it. -/
theorem map_of_windowsWhere {t : Table Window} (h : Table.rising t = true) (p : Window → Bool)
    (f : Window → Window) (k : Nat) :
    (if k ∈ windowsWhere t p then (Table.at? t k).map f else Table.at? t k)
      = (Table.at? t k).map fun w => if p w = true then f w else w := by
  simp only [mem_windowsWhere h]
  rcases Table.at? t k with _ | w
  · simp
  · by_cases hp : p w = true <;> simp [hp]

theorem posted_of_ports {t : State} {ns : List Notice} (h : t.ports = ns.foldl Ports.post s.ports) :
    Posted s t ns := fun i => by
  rw [State.port, h]
  exact ⟨rfl, rfl⟩

theorem exec_lineEvent {line : Fin 8} (h : s.events.isDue line.val .bindable = true) :
    exec (.lineEvent line) s
      = .next ((windowsWhere s.dir.windows fun w => w.isLiveBound line.val).foldl
          (fun t k => t.lineAction line.val k) (s.takeLineEvent line.val)) :=
  congrArg Host.Outcome.next (if_pos h)

theorem Window.onLine_of_bound (line : Nat) :
    (fun w : Window => if w.isLiveBound line = true then w.onLine line else w)
      = Window.onLine line := funext fun w => by
  rcases h : w.isLiveBound line
  · exact (Window.passedOver_of_not_bound h).same.symm
  · rfl

theorem Window.bound_and_joinsOnLine (line : Nat) :
    (fun w : Window => w.isLiveBound line && w.joinsOnLine line) = Window.joinsOnLine line :=
  funext fun w => by
    rcases h : w.isLiveBound line
    · exact (Window.passedOver_of_not_bound h).joins.symm
    · rfl

theorem Window.bound_and_swapsOnLine (line : Nat) :
    (fun w : Window => w.isLiveBound line && w.swapsOnLine line) = Window.swapsOnLine line :=
  funext fun w => by
    rcases h : w.isLiveBound line
    · exact (Window.passedOver_of_not_bound h).swaps.symm
    · rfl

/-- Settles O35: the windows bound to the line are met once each in ascending order, so that the event
acts on each as it stood before. -/
theorem lineEventActs : Obligations.LineEventActs := by
  intro line s before after hr hwaits hbefore
  obtain ⟨hwindow, hqueue, hports, hframe⟩ := lineActions_eq
    (windowsWhere_nodup hr fun w => w.isLiveBound line.val) (s.takeLineEvent line.val) line.val
  refine ⟨_, exec_lineEvent (EventUnit.isDue_of_waiting hwaits hbefore), ?_, fun k => ?_, ?_, ?_, ?_⟩
  · exact (hframe .lineEvents (by simp [Place.isNotice])).trans (lineEvents_takeLineEvent hwaits hbefore)
  · refine (hwindow k).trans ((map_of_windowsWhere hr _ _ k).trans ?_)
    rw [Window.onLine_of_bound]
    rfl
  · refine hqueue.trans (congrArg _ ((filter_windowsWhere hr _ _).trans ?_))
    rw [Window.bound_and_joinsOnLine]
    rfl
  · have hswaps := (filter_windowsWhere hr (fun w => w.isLiveBound line.val)
      (Window.swapsOnLine line.val)).trans (by rw [Window.bound_and_swapsOnLine])
    refine posted_of_ports (hports.trans ?_)
    exact congrArg (fun ks => (ks.flatMap (lineSwapNotices s)).foldl Ports.post s.ports) hswaps
  · refine (unchangedBut_takeLineEvent s line.val).trans hframe ?_ ?_
    · exact fun x h => .inr (.inr (.inr h))
    · exact fun x h => h.imp_right fun h => h.imp_right .inl

end Sys2Proof.Machine
end

section
/-! SUPPORT. The tamper response: a line event of a TAMPER line, and CLEAR TAMPER (R151, R153).
-/

namespace Sys2Proof.Machine

variable {s : State}

theorem unchangedBut_tamper (s : State) (latch : Bool) :
    UnchangedBut (· = .tamperLatch) s { s with dir.tamper := latch } := by
  intro x hx
  cases x
  case tamperLatch => exact absurd rfl hx
  case reserves => exact ⟨rfl, rfl⟩
  all_goals exact rfl

/-! ### CLEAR TAMPER -/

theorem mirrors_checkClearTamper (i : PortId) (s : State) :
    Mirrors (clearTamperChecks i s) (checkClearTamper i s) :=
  .cons (mirrors_require rfl) fun _ _ => .cons (mirrors_require rfl) fun _ _ =>
    mirrors_require (Bool.not_not _).symm

/-- A command that the busy rule of an IDLE port alone takes is refused by the rule (R161). -/
theorem refused_of_busyRule {c : Instr} {i : PortId} {act : State} {code : ResultCode}
    (he : exec c s = .next (s.onIdle i act))
    (hb : (s.port i).state.busyRule false false = some code) : Refused c s i code :=
  refused_of_reply (he.trans (congrArg _ (State.onPort_refused hb act)))

/-- Settles O33: the busy rule and the checks refuse as listed, and then the latch alone is written. -/
theorem clearTamperClears : Obligations.ClearTamperClears := by
  refine fun i s => ⟨fun hn => refused_of_busyRule rfl (by rw [hn]; rfl),
    fun hbusy => refused_of_busyRule rfl ?_, fun hi =>
      ⟨fun _ => refused_of_mirrors hi rfl (mirrors_checkClearTamper i s), fun hc => ?_⟩⟩
  · rcases hbusy with h | h <;> rw [h] <;> rfl
  · obtain ⟨-, -, he⟩ := acts_of_mirrors (c := .clearTamper i) hi rfl (mirrors_checkClearTamper i s) hc
    exact ⟨_, he, by simp [State.answered], rfl,
      (unchangedBut_tamper s false).answer (fun _ => .inl) (.inr rfl)⟩

/-! ### A line event of a TAMPER line -/

/-- The part as the tamper response leaves it before its notices: the event taken, the latch set and
retirement begun on the windows reached (R151). -/
def State.tampered (s : State) (line : Nat) (reached : List Nat) : State :=
  ({ s.takeLineEvent line with dir.tamper := true } : State).retireAll .tamper reached

theorem exec_tamperLineEvent {line : Fin 8} (h : s.events.isDue line.val .tamper = true) :
    exec (.tamperLineEvent line) s
      = let reached := windowsWhere s.dir.windows Window.isLiveGuarded
        .next ((s.tampered line.val reached).postAll
          [Notice.tamper .payment line.val reached.length,
           Notice.tamper .radio line.val reached.length]) :=
  congrArg Host.Outcome.next (if_pos h)

theorem tampered_keeps (s : State) (line : Nat) (reached : List Nat) :
    s.tampered line reached
      = { s.takeLineEvent line with
          dir.tamper := true
          dir.windows := (s.tampered line reached).dir.windows
          retire.queue := (s.tampered line reached).retire.queue } := retireAll_keeps ..

theorem unchangedBut_tampered (s : State) (line : Nat) (reached : List Nat) :
    UnchangedBut (fun x => (∃ k, x = .window k) ∨ x = .retireQueue ∨ x = .lineEvents ∨ x = .tamperLatch)
      s (s.tampered line reached) := by
  refine ((unchangedBut_takeLineEvent s line).trans (unchangedBut_tamper _ true)
    (r := fun x => x = .lineEvents ∨ x = .tamperLatch) (fun _ => .inl) fun _ => .inr).trans
    (unchangedBut_retireAll _ .tamper reached) ?_ ?_
  · exact fun _ h => .inr (.inr h)
  · exact fun _ h => h.imp_right .inl

theorem Window.isLiveGuarded_iff (w : Window) :
    w.isLiveGuarded = true ↔ w.isLive = true ∧ w.cls = .guarded := by
  simp [Window.isLiveGuarded]

/-- Settles O36: the windows reached are met once each in ascending order, LIVE as they stood before. -/
theorem tamperEventActs : Obligations.TamperEventActs := by
  rintro line s before after reached hr hwaits hbefore rfl
  obtain ⟨hwindow, hqueue⟩ := retireAll_eq
    (s := { s.takeLineEvent line.val with dir.tamper := true }) .tamper
    (windowsWhere_nodup hr Window.isLiveGuarded) fun k hk => by
      obtain ⟨w, hw, hg⟩ := (mem_windowsWhere hr _ k).1 hk
      exact ⟨w, hw, (w.isLiveGuarded_iff.1 hg).1⟩
  have hkeeps := tampered_keeps s line.val (windowsWhere s.dir.windows Window.isLiveGuarded)
  refine ⟨_, exec_tamperLineEvent (EventUnit.isDue_of_waiting hwaits hbefore), ?_, ?_, fun k => ?_,
    hqueue, ?_, ?_⟩
  · exact congrArg (·.dir.tamper) hkeeps
  · exact (congrArg (·.events.lineEvents) hkeeps).trans (lineEvents_takeLineEvent hwaits hbefore)
  · refine (hwindow k).trans ((map_of_windowsWhere hr _ _ k).trans ?_)
    simp only [Window.isLiveGuarded_iff]
    rfl
  · refine posted_of_ports (congrArg (List.foldl Ports.post · _) ?_)
    exact congrArg (·.ports) hkeeps
  · exact (unchangedBut_tampered s line.val _).trans (unchangedBut_postAll _ _) (fun _ => .inr)
      fun _ => .inl

end Sys2Proof.Machine
end

section
/-! SUPPORT. The commands of the port itself that are taken while a transfer runs, and the frames that end in
no command: READ STATUS, READ NOTICE, PORT RESET, FRAME_REJECTED and FRAME_DISCARDED (R157, R158, R162, R164,
R166).
-/

namespace Sys2Proof.Machine

variable {s : State} {i : PortId}

/-! ### The busy rule and the answer -/

section Ruled

variable {c : Instr} {during always : Bool} {act : State}

/-- A command that the busy rule takes acts (R161). -/
theorem exec_taken (he : exec c s = .next (s.onPort i during always act))
    (hb : (s.port i).state.busyRule during always = none) : exec c s = .next act :=
  he.trans (congrArg Host.Outcome.next (State.onPort_taken hb act))

/-- A command that the busy rule does not take is refused (R161). -/
theorem refused_of_onPort {code : ResultCode} (he : exec c s = .next (s.onPort i during always act))
    (hb : (s.port i).state.busyRule during always = some code) : Refused c s i code :=
  refused_of_reply (he.trans (congrArg Host.Outcome.next (State.onPort_refused hb act)))

end Ruled

/-- READ STATUS is taken in every port state (R161). -/
theorem PortState.busyRule_always (x : PortState) : x.busyRule true true = none := by
  cases x <;> rfl

/-- READ NOTICE and PORT RESET are taken by every port that is ready (R161). -/
theorem PortState.busyRule_during {x : PortState} (h : x ≠ .notReady) (always : Bool) :
    x.busyRule true always = none := by
  cases x
  case notReady => exact absurd rfl h
  all_goals rfl

theorem State.answered_answer (s : State) (i : PortId) (code : ResultCode) (detail : List Byte) :
    (s.answer i code detail).answered i code detail :=
  congrArg Port.response (s.port_answer_same i code detail)

/-! ### READ STATUS -/

theorem exec_readStatus (i : PortId) (s : State) :
    exec (.readStatus i) s
      = .next ((s.setPort i { s.port i with lost := false }).answer i .ok (s.statusBytes i)) :=
  exec_taken rfl (PortState.busyRule_always _)

/-- The answer of READ STATUS, byte by byte (R162, R175). -/
theorem statusBytes_eq (s : State) (i : PortId) :
    s.statusBytes i
      = [(s.port i).state.toByte, s.policy.phase.toByte, flagByte s.dir.tamper,
          (s.port i).last.code.toByte,
          byteOf ((s.port i).last.bytes / 256), byteOf (s.port i).last.bytes,
          byteOf (s.port i).last.corrected, byteOf (s.port i).last.uncorrectable,
          byteOf (s.port i).notices.length, flagByte (s.port i).lost, flagByte (s.port i).mark,
          if i = .aPort then byteOf s.ports.acting.val else 0xFF#8] := by
  simp only [State.statusBytes, bytes2_ofNat]
  cases i <;> rfl

/-- Settles O4: the answer is read before the notices-lost flag is cleared. -/
theorem readStatusAnswers : Obligations.ReadStatusAnswers := by
  intro i s
  refine ⟨_, exec_readStatus i s, ?_, by simp, ?_⟩
  · rw [← statusBytes_eq]
    exact State.answered_answer ..
  · have hset : UnchangedBut (· = .noticesLost i) s (s.setPort i { s.port i with lost := false }) :=
      unchangedBut_setPort { lost := .inl rfl }
    exact hset.answer (fun _ => .inl) (.inr rfl)

/-! ### READ NOTICE -/

/-- READ NOTICE takes the oldest notice out of the queue and answers it (R164). -/
theorem exec_readNotice_cons {n : Notice} {rest : List Notice} (hs : (s.port i).state ≠ .notReady)
    (hn : (s.port i).notices = n :: rest) :
    exec (.readNotice i) s
      = .next ((s.setPort i { s.port i with notices := rest }).answer i .ok n.record) := by
  refine (exec_taken rfl (PortState.busyRule_during hs false)).trans ?_
  rw [hn]

/-- READ NOTICE on an empty queue answers the NONE record (R164). -/
theorem exec_readNotice_nil (hs : (s.port i).state ≠ .notReady) (hn : (s.port i).notices = []) :
    exec (.readNotice i) s = .next (s.answer i .ok Notice.empty.record) := by
  refine (exec_taken rfl (PortState.busyRule_during hs false)).trans ?_
  rw [hn]

/-- A four-byte field, byte by byte (chapter 12). -/
theorem bytes4_eq (x : BitVec 32) :
    Frame.bytes4 x = [byteOf (x.toNat / 16777216), byteOf (x.toNat / 65536), byteOf (x.toNat / 256),
      byteOf x.toNat] := by
  obtain ⟨n, hn, rfl⟩ : ∃ n, n < 2 ^ 32 ∧ x = BitVec.ofNat 32 n := ⟨x.toNat, x.isLt, by simp⟩
  rw [BitVec.toNat_ofNat, Nat.mod_eq_of_lt hn]
  simp [Frame.bytes4, extract_byteOf]

/-- A notice record, byte by byte (R176). -/
theorem record_eq (n : Notice) :
    n.record
      = [n.kind.toByte, byteOf n.holder.code, byteOf n.selector, n.code.toByte, n.a0, n.a1, n.a2,
          n.a3, byteOf (n.b.toNat / 16777216), byteOf (n.b.toNat / 65536),
          byteOf (n.b.toNat / 256), byteOf n.b.toNat] := by
  rw [Notice.record, bytes4_eq]
  rfl

/-- Settles O5: a queue that holds a notice gives its head, and an empty one gives the NONE record. -/
theorem readNoticeTakesOldest : Obligations.ReadNoticeTakesOldest := by
  intro i s hs
  refine ⟨fun n rest hn => ⟨_, exec_readNotice_cons hs hn, ?_, by simp, ?_⟩,
    fun hn => ⟨_, exec_readNotice_nil hs hn, State.answered_answer .., s.answer_unchangedBut i .ok _⟩⟩
  · rw [← record_eq]
    exact State.answered_answer ..
  · have hset : UnchangedBut (· = .notices i) s (s.setPort i { s.port i with notices := rest }) :=
      unchangedBut_setPort { notices := .inl rfl }
    exact hset.answer (fun _ => .inl) (.inr rfl)

/-! ### PORT RESET -/

theorem exec_portReset_idle (hs : (s.port i).state = .idle) :
    exec (.portReset i) s = .next ((s.actReset i).answer i .ok [0x00#8]) := by
  refine (exec_taken rfl (PortState.busyRule_during (by simp [hs]) false)).trans ?_
  rw [hs]

theorem exec_portReset_executing (hs : (s.port i).state = .executing) :
    exec (.portReset i) s = .next ((s.withPortState i .resetting).answer i .ok [0x01#8]) := by
  refine (exec_taken rfl (PortState.busyRule_during (by simp [hs]) false)).trans ?_
  rw [hs]
  rfl

theorem exec_portReset_resetting (hs : (s.port i).state = .resetting) :
    exec (.portReset i) s = .next (s.answer i .ok [0x01#8]) := by
  refine (exec_taken rfl (PortState.busyRule_during (by simp [hs]) false)).trans ?_
  rw [hs]

theorem unchangedBut_withPortState (s : State) (i : PortId) (y : PortState) :
    UnchangedBut (· = .portState i) s (s.withPortState i y) :=
  unchangedBut_setPort { state := .inl rfl }

/-- The port reset on an IDLE port answers 00h after it has acted (R166). -/
theorem portReset_idle_acts (hs : (s.port i).state = .idle) :
    ∃ t, exec (.portReset i) s = .next t ∧ t.answered i .ok [0x00#8]
      ∧ (t.port i).notices = [] ∧ (t.port i).lost = false
      ∧ (t.port i).last = ⟨.ok, 0, 0, 0⟩ ∧ (t.port i).state = .idle
      ∧ t.move.queue
          = ((s.move.queue.filter fun r => r.running || decide (r.requester.port ≠ i)).map
              fun r => if r.requester.port = i then { r with resetMark := true } else r)
      ∧ UnchangedBut (fun x => x = .notices i ∨ x = .noticesLost i ∨ x = .lastResult i
          ∨ x = .moveQueue ∨ x = .response i) s t := by
  obtain ⟨hstate, hnotices, hlost, hlast, hqueue, hrest⟩ := actReset_acts hs
  refine ⟨_, exec_portReset_idle hs, State.answered_answer .., by simp [hnotices], by simp [hlost],
    by simp [hlast], by simp [hstate], hqueue, hrest.answer ?_ (.inr (.inr (.inr (.inr rfl))))⟩
  exact fun _ h => h.imp_right fun h => h.imp_right fun h => h.imp_right .inl

/-- Settles O6: one case for each of the four states of the port. -/
theorem portResetActsOrWaits : Obligations.PortResetActsOrWaits := by
  refine fun i s => ⟨portReset_idle_acts, fun hs => ?executing, fun hs => ?resetting,
    fun hs => refused_of_onPort rfl (by rw [hs]; rfl)⟩
  case executing =>
    refine ⟨_, exec_portReset_executing hs, State.answered_answer .., by simp [State.withPortState], ?_⟩
    exact (unchangedBut_withPortState s i .resetting).answer (fun _ => .inl) (.inr rfl)
  case resetting =>
    exact ⟨_, exec_portReset_resetting hs, State.answered_answer .., s.answer_unchangedBut i .ok _⟩

/-! ### Frames that end in no command -/

variable {bytes : List Byte}

theorem exec_frameRejected_frame (h : Frame.judge i bytes = .frame) :
    exec (.frameRejected i bytes) s = .next (s.reply i .frame) := by
  simp only [exec, execFrameRejected, h]

theorem exec_frameRejected_unknown (h : Frame.judge i bytes = .unknown) :
    exec (.frameRejected i bytes) s = .next (s.reply i .unknown) := by
  simp only [exec, execFrameRejected, h]

theorem exec_frameDiscarded_incomplete (h : Frame.judge i bytes = .incomplete) :
    exec (.frameDiscarded i bytes) s = .next (s.setPort i { s.port i with response := none }) := by
  simp only [exec, execFrameDiscarded, h]

/-- Settles O7: neither event looks at the port's state, and each writes the response alone. -/
theorem badFramesChangeNothing : Obligations.BadFramesChangeNothing := by
  intro i bytes s
  refine ⟨fun h => refused_of_reply (exec_frameRejected_frame h),
    fun h => refused_of_reply (exec_frameRejected_unknown h),
    fun h => ⟨_, exec_frameDiscarded_incomplete h, by simp, ?_⟩⟩
  exact unchangedBut_setPort { response := .inl rfl }

end Sys2Proof.Machine
end

section
/-! SUPPORT. The posting of a notice, and the attention line that follows the notice queue (R163, R165).
-/

namespace Sys2Proof.Machine

/-- The places of a notice queue (R163). -/
theorem noticeCapacity_eq (i : PortId) : noticeCapacity i = if i = .aPort then 32 else 16 := by
  cases i <;> rfl

theorem noticeCapacity_pos (i : PortId) : 0 < noticeCapacity i := by
  cases i <;> decide

/-- Settles O8: at the holder's port a full queue keeps its notices and a queue with a free place keeps the
flag; another port keeps both. -/
theorem postingRule : Obligations.PostingRule := by
  intro s n i
  simp only [State.noticesAfter, State.lostAfter, List.foldl_cons, List.foldl_nil, Ports.get_post,
    ← noticeCapacity_eq]
  change _ ∧ _ = ((s.ports.get i).lost || _)
  by_cases hi : n.holder.port = i
  · subst hi
    by_cases hroom : (s.ports.get n.holder.port).notices.length < noticeCapacity n.holder.port
    · simp [hroom, State.port]
    · simp [hroom, State.port, Nat.le_of_not_lt hroom]
  · simp [hi, Ne.symm hi, State.port]

theorem Port.attn_iff (x : Port) : x.attn = true ↔ x.notices ≠ [] := by
  simp [Port.attn]

theorem Port.attn_eq_false {x : Port} (h : x.notices = []) : x.attn = false := by
  simp [Port.attn, h]

/-- A post leaves a notice in the queue, its own or, where that is dropped, those that fill it (R163,
R165). -/
theorem attn_post (ps : Ports) (n : Notice) : ((ps.post n).get n.holder.port).attn = true := by
  rw [Port.attn_iff, Ports.get_post, if_pos rfl]
  split
  · simp
  · rename_i hfull
    have hpos := noticeCapacity_pos n.holder.port
    exact List.ne_nil_of_length_pos (by dsimp only; omega)

/-- Settles O9: the attention line is read from the queue, so that each sentence says what an event leaves
in the queue. -/
theorem attentionFollowsQueue : Obligations.AttentionFollowsQueue := by
  refine ⟨Port.attn_iff, attn_post, fun i s t n hs hn ht => ?_, fun i s => ?_, fun i => ?_⟩
  · cases (exec_readNotice_cons hs hn).symm.trans ht
    exact Port.attn_eq_false (by simp)
  · have hport : (s.actReset i).port i = { s.port i with
        notices := [], lost := false, last := LastResult.initial, state := .idle } :=
      State.port_setPort_same ..
    exact Port.attn_eq_false (congrArg Port.notices hport)
  · cases i <;> rfl

end Sys2Proof.Machine
end

section
/-! SUPPORT. The busy rule over every command (R161): each that passes the judgement of its frame acts behind
the busy rule of its port, and on an IDLE port leaves it IDLE unless it hands over a transfer.
-/

namespace Sys2Proof.Machine

variable {s t : State} {c : Instr} {i : PortId}

/-! ### What the judgement leaves known -/

/-- A LOAD STAGING that is taken carries as many payload bytes as it counts (R158 step 3). -/
theorem payload_of_taken {column count : BitVec 16} {payload : List Byte}
    (h : Frame.commandOf i 0x08 (Frame.bytes2 column ++ Frame.bytes2 count ++ payload) = .taken c) :
    payload.length = count.toNat := by
  change Frame.fixed (Frame.bodyLoadStaging i _) = _ at h
  by_contra hne
  simp [Frame.bodyLoadStaging, Frame.bytes2, Frame.fixed, hne] at h

/-- The commands of the app slots are taken by the A-port alone (R131, R158 step 2). -/
theorem aPort_of_taken {code : Byte} {body : List Byte} (h : Frame.commandOf i code.toNat body = .taken c)
    (hcode : code = 0x30#8 ∨ code = 0x31#8 ∨ code = 0x32#8) : i = .aPort := by
  by_contra hi
  cases (commandOf_unknown ⟨hi, hcode⟩).symm.trans h

/-! ### The state of the port -/

/-- A run of changes of the Directory leaves the state of each port. -/
theorem State.Leads.portState (h : s.Leads t) (i : PortId) : (t.port i).state = (s.port i).state := by
  refine h.keeps (P := fun u => (u.port i).state = (s.port i).state) (fun u v hact hu => ?_) rfl
  cases hact with
  | same hsame => exact (hsame.portState i).trans hu
  | window => exact hu
  | pruned => exact hu
  | joined => exact hu

theorem port_answer_state (s : State) (i : PortId) (code : ResultCode) (detail : List Byte) :
    ((s.answer i code detail).port i).state = (s.port i).state := by
  simp

theorem port_post_state (s : State) (n : Notice) (i : PortId) :
    ((s.post n).port i).state = (s.port i).state :=
  s.port_postAll_state [n] i

theorem port_selectApp_state (s : State) (slot : Fin 32) :
    ((s.selectApp slot).port .aPort).state = (s.port .aPort).state :=
  unchangedBut_selectApp s slot (.portState .aPort) (by simp)

/-! ### Behind the busy rule -/

/-- A command that hands over no transfer. -/
def HandsOverNoTransfer (c : Instr) (i : PortId) : Prop := (∀ a, c ≠ .put i a) ∧ ∀ a, c ≠ .fetch i a

/-- The command acts behind the busy rule of its port; during a transfer only the three of R161 are taken, on
a port that is not ready only READ STATUS, and on an IDLE port the act leaves it IDLE unless it hands over a
transfer. -/
structure Gated (c : Instr) (i : PortId) (s : State) (during always : Bool) (act : State) : Prop where
  runs : exec c s = .next (s.onPort i during always act)
  during : during = true → c = .readStatus i ∨ c = .readNotice i ∨ c = .portReset i
  always : always = true → c = .readStatus i
  idle : (s.port i).state = .idle → HandsOverNoTransfer c i → (act.port i).state = .idle

/-- The command acts behind the busy rule of its port, whichever of the two exceptions it has. -/
def ActsGated (c : Instr) (i : PortId) (s : State) : Prop :=
  ∃ during always act, Gated c i s during always act

/-- A command that an IDLE port alone takes has neither exception (R161). -/
theorem gated_onIdle {act : State} (he : exec c s = .next (s.onIdle i act))
    (hidle : (s.port i).state = .idle → HandsOverNoTransfer c i → (act.port i).state = .idle) :
    ActsGated c i s :=
  ⟨false, false, act, he, fun h => (nomatch h), fun h => (nomatch h), hidle⟩

/-- A command that answers after its checks and an act that leaves the state of the port. -/
theorem gated_answering {α : Type} {checks : Except ResultCode α} {act : α → State} {code : ResultCode}
    {detail : α → List Byte}
    (he : exec c s = .next (s.onIdle i (s.checked i checks fun a => (act a).answer i code (detail a))))
    (h : ∀ a, checks = .ok a → ((act a).port i).state = (s.port i).state) :
    ActsGated c i s := by
  refine gated_onIdle he fun hi _ => ?_
  rcases hc : checks with refusal | a
  · exact (port_answer_state ..).trans hi
  · exact ((port_answer_state ..).trans (h a hc)).trans hi

theorem gated_readStatus (i : PortId) (s : State) : ActsGated (.readStatus i) i s := by
  refine ⟨true, true, _, rfl, fun _ => .inl rfl, fun _ => rfl, fun hi _ => ?_⟩
  exact (port_answer_state ..).trans (by simp [hi])

theorem gated_readNotice (i : PortId) (s : State) : ActsGated (.readNotice i) i s := by
  refine ⟨true, false, _, rfl, fun _ => .inr (.inl rfl), fun h => (nomatch h), fun hi _ => ?_⟩
  split
  · exact (port_answer_state ..).trans hi
  · exact (port_answer_state ..).trans (by simp [hi])

theorem gated_portReset (i : PortId) (s : State) : ActsGated (.portReset i) i s := by
  refine ⟨true, false, _, rfl, fun _ => .inr (.inr rfl), fun h => (nomatch h), fun hi _ => ?_⟩
  rw [hi]
  obtain ⟨hstate, -⟩ := actReset_acts hi
  exact (port_answer_state ..).trans hstate

/-- Every command that passes the judgement of its frame acts behind the busy rule of its port (R158 step 4,
R161); an event is carried by no frame. -/
theorem PassesFrame.gated (h : PassesFrame c i) (s : State) : ActsGated c i s := by
  obtain ⟨code, body, hreq, hc⟩ := h
  cases c
  case readStatus =>
    cases hreq
    exact gated_readStatus i s
  case readNotice =>
    cases hreq
    exact gated_readNotice i s
  case portReset =>
    cases hreq
    exact gated_portReset i s
  case loadStaging =>
    cases hreq
    exact gated_answering (exec_loadStaging (payload_of_taken hc)) fun _ _ => by simp
  case clearStaging =>
    cases hreq
    refine gated_onIdle rfl fun hi _ => ?_
    exact (port_answer_state ..).trans (by simp [hi])
  case put a =>
    cases hreq
    exact gated_onIdle rfl fun _ ⟨hput, _⟩ => absurd rfl (hput a)
  case fetch a =>
    cases hreq
    exact gated_onIdle rfl fun _ ⟨_, hfetch⟩ => absurd rfl (hfetch a)
  case grantView =>
    cases hreq
    exact gated_answering rfl fun _ _ => port_post_state ..
  case narrowView | dropView =>
    cases hreq
    exact gated_answering rfl fun _ _ => State.port_postAll_state ..
  case retireWindow =>
    cases hreq
    exact gated_answering rfl fun _ _ => (leads_beginRetirement ..).portState i
  case swapBanks =>
    cases hreq
    refine gated_answering rfl fun x hx => ?_
    obtain ⟨hw, hl, h1, -⟩ := checkSwapper_ok hx
    exact (leads_requestExchange .holder hw hl (.inl h1)).portState i
  case selectApp =>
    cases hreq
    cases aPort_of_taken hc (.inl rfl)
    exact gated_answering rfl fun _ _ => port_selectApp_state ..
  case openSlot =>
    cases hreq
    cases aPort_of_taken hc (.inr (.inl rfl))
    exact gated_answering rfl fun _ _ => rfl
  case closeSlot =>
    cases hreq
    cases aPort_of_taken hc (.inr (.inr rfl))
    exact gated_answering rfl fun _ _ => (leads_teardown ..).portState .aPort
  case readStaging | describeView | move | openWindow | renew | stageLimit | setPools | setQuota | setLine
      | lockPolicy | clearTamper =>
    cases hreq
    exact gated_answering rfl fun _ _ => rfl
  all_goals cases hreq

/-! ### The busy rule -/

/-- Settles O3: the busy rule refuses, or takes, what acts behind it. -/
theorem busyRule : Obligations.BusyRule := by
  intro c i s hp
  obtain ⟨during, always, act, hg⟩ := hp.gated s
  refine ⟨fun hs hc => ?_, fun hs h1 h2 h3 => ?_, fun hs hput hfetch => ?_⟩
  · have halways : always = false := Bool.eq_false_iff.2 (mt hg.always hc)
    refine refused_of_onPort hg.runs ?_
    rw [hs, halways]
    rfl
  · have hduring : during = false := Bool.eq_false_iff.2 fun h =>
      (hg.during h).elim h1 fun h => h.elim h2 h3
    refine refused_of_onPort hg.runs ?_
    rcases hs with hs | hs <;> rw [hs, hduring] <;> rfl
  · refine ⟨act, exec_taken hg.runs ?_, hg.idle hs ⟨hput, hfetch⟩⟩
    rw [hs]
    rfl

end Sys2Proof.Machine
end

section
/-! SUPPORT. The policy commands SET POOLS, SET QUOTA, SET LINE and LOCK POLICY (R171 to R173), with what a
policy written leaves.
-/

namespace Sys2Proof.Machine

variable {s : State} {i : PortId}

/-! ### A policy written -/

/-- A policy is another one but for the places named; a place that no field mentions is as it was. -/
structure Policy.SameBut (changed : Place → Prop) (x y : Policy) : Prop where
  phase : changed .phase ∨ y.phase = x.phase := by exact .inr rfl
  reserves : changed .reserves ∨ (y.nReserve = x.nReserve ∧ y.pReserve = x.pReserve) := by
    exact .inr ⟨rfl, rfl⟩
  quota : ∀ h, changed (.quota h) ∨ y.quota h = x.quota h := by exact fun _ => .inr rfl
  line : ∀ n, changed (.line n) ∨ y.line n = x.line n := by exact fun _ => .inr rfl

theorem unchangedBut_policy {changed : Place → Prop} {y : Policy}
    (h : Policy.SameBut changed s.policy y) : UnchangedBut changed s { s with policy := y } := by
  intro p hp
  cases p
  case phase => exact h.phase.resolve_left hp
  case reserves => exact h.reserves.resolve_left hp
  case quota holder => exact (h.quota holder).resolve_left hp
  case line n => exact (h.line n).resolve_left hp
  all_goals exact rfl

/-! ### The checks in common -/

/-- The two checks that open the list of every policy command (R171). -/
theorem mirrors_checkPolicy (i : PortId) (s : State) :
    Mirrors [(!decide (i = .pPort), .notReady), (decide (s.policy.phase = .running), .locked)]
      (checkPolicy i s) :=
  .cons (mirrors_require rfl) fun _ _ => mirrors_require (Bool.not_not _).symm

/-- A policy command whose own checks say whether a parameter is out of range passes the list of R171. -/
theorem mirrors_policyChecks {α : Type} {outside : Bool} {own : Except ResultCode α}
    (h : Mirrors [(outside, .badArg)] own) :
    Mirrors (policyChecks i outside s) (checkPolicy i s >>= fun _ => own) :=
  (mirrors_checkPolicy i s).bind fun _ _ => h

/-! ### SET POOLS -/

theorem mirrors_checkSetPools (i : PortId) (nReserve pReserve : BitVec 16) (s : State) :
    Mirrors (policyChecks i (!([0, 128, 256, 512].contains nReserve.toNat)
        || !([0, 128, 256, 512, 1024].contains pReserve.toNat)) s)
      (checkSetPools i nReserve pReserve s) :=
  mirrors_policyChecks (mirrors_require (Bool.not_and ..).symm)

/-- Both reserve sizes are set at once (R172). -/
theorem setPools_acts {nReserve pReserve : BitVec 16} {l : List (Bool × ResultCode)}
    (hi : (s.port i).state = .idle) (hm : Mirrors l (checkSetPools i nReserve pReserve s))
    (hc : firstFailure l = none) :
    ∃ t, exec (.setPools i nReserve pReserve) s = .next t ∧ t.answered i .ok []
      ∧ t.policy.nReserve = nReserve.toNat ∧ t.policy.pReserve = pReserve.toNat
      ∧ UnchangedBut (fun x => x = .reserves ∨ x = .response i) s t := by
  obtain ⟨-, -, he⟩ := acts_of_mirrors (c := .setPools i nReserve pReserve) hi rfl hm hc
  have hset : UnchangedBut (· = .reserves) s { s with policy := { s.policy with
      nReserve := nReserve.toNat, pReserve := pReserve.toNat } } :=
    unchangedBut_policy { reserves := .inl rfl }
  exact ⟨_, he, State.answered_answer .., rfl, rfl, hset.answer (fun _ => .inl) (.inr rfl)⟩

/-! ### SET QUOTA -/

/-- The quota class names the holder: 00h P, 01h N, 20h the A-system, 21h the app slots (12.1). -/
def quotaClassNames (cls : Byte) (h : Holder) : Bool :=
  (decide (cls = 0x00#8) && decide (h = .payment))
    || (decide (cls = 0x01#8) && decide (h = .radio))
    || (decide (cls = 0x20#8) && decide (h = .app 0))
    || (decide (cls = 0x21#8) && decide (h ≠ .app 0) && h.isA)

theorem setQuota?_isNone (x : Policy) (cls : Byte) (q : Quota) :
    (x.setQuota? cls q).isNone = !([0x00#8, 0x01#8, 0x20#8, 0x21#8].contains cls) := by
  unfold Policy.setQuota?
  split_ifs <;> simp_all

/-- The holders that the quota class names get the pair, and every other keeps its own (R172). -/
theorem quota_setQuota? {x y : Policy} {cls : Byte} {q : Quota} (hy : x.setQuota? cls q = some y)
    (h : Holder) : y.quota h = if quotaClassNames cls h then q else x.quota h := by
  unfold Policy.setQuota? at hy
  split_ifs at hy with hc hc hc hc
  all_goals
    cases hy
    subst hc
    rcases h with _ | _ | slot
    · simp [quotaClassNames, Policy.quota, Holder.isA]
    · simp [quotaClassNames, Policy.quota, Holder.isA]
    · by_cases hs : slot = 0 <;> simp [quotaClassNames, Policy.quota, Holder.isA, hs]

theorem mirrors_checkSetQuota (i : PortId) (cls windows : Byte) (pages : BitVec 16) (s : State) :
    Mirrors (policyChecks i (!([0x00#8, 0x01#8, 0x20#8, 0x21#8].contains cls)
        || decide (2048 < pages.toNat)) s)
      (checkSetQuota i cls windows pages s) := by
  rw [Bool.or_comm]
  refine mirrors_policyChecks (.or (mirrors_require ?_) fun _ _ =>
    mirrors_found (setQuota?_isNone ..).symm)
  rw [← decide_not, decide_eq_decide, Nat.not_le]

/-- The pair of the holders that the class names is set, and no other (R172). -/
theorem setQuota_acts {cls windows : Byte} {pages : BitVec 16} {l : List (Bool × ResultCode)}
    (hi : (s.port i).state = .idle) (hm : Mirrors l (checkSetQuota i cls windows pages s))
    (hc : firstFailure l = none) :
    ∃ t, exec (.setQuota i cls windows pages) s = .next t ∧ t.answered i .ok []
      ∧ (∀ h, quotaClassNames cls h = true → t.policy.quota h = ⟨windows.toNat, pages.toNat⟩)
      ∧ UnchangedBut (fun x => (∃ h, quotaClassNames cls h = true ∧ x = .quota h) ∨ x = .response i)
          s t := by
  obtain ⟨y, hy, he⟩ := acts_of_mirrors (c := .setQuota i cls windows pages) hi rfl hm hc
  obtain ⟨hphase, hn, hp⟩ := checkSetQuota_ok hy
  obtain ⟨-, -, hlines⟩ := checkSetQuota_unlocked hy
  simp only [checkSetQuota, Checks.bind_eq_ok, found_eq_ok] at hy
  obtain ⟨-, -, -, -, hy⟩ := hy
  have hquota := quota_setQuota? hy
  have hset : UnchangedBut (fun x => ∃ h, quotaClassNames cls h = true ∧ x = .quota h) s
      { s with policy := y } :=
    unchangedBut_policy
      { phase := .inr hphase
        reserves := .inr ⟨hn, hp⟩
        quota := fun h => ?_
        line := fun n => .inr (by simp only [Policy.line, hlines]) }
  · exact ⟨_, he, State.answered_answer .., fun h hh => (hquota h).trans (if_pos hh),
      hset.answer (fun _ => .inl) (.inr rfl)⟩
  · by_cases hh : quotaClassNames cls h = true
    · exact .inl ⟨h, hh, rfl⟩
    · exact .inr ((hquota h).trans (if_neg hh))

/-! ### SET LINE -/

theorem roleOfByte_isNone (b : Byte) :
    (LineRole.ofByte? b).isNone = !([0x00#8, 0x01#8, 0x02#8].contains b) := by
  unfold LineRole.ofByte?
  split_ifs <;> simp_all

theorem roleOfByte_eq_some {b : Byte} {r : LineRole} (h : LineRole.ofByte? b = some r) :
    r = if b = 0x00#8 then .unused else if b = 0x01#8 then .bindable else .tamper := by
  unfold LineRole.ofByte? at h
  split_ifs at h ⊢ <;> cases h <;> rfl

theorem modeOfByte_isNone (b : Byte) :
    (EdgeMode.ofByte? b).isNone = !([0x00#8, 0x01#8, 0x02#8].contains b) := by
  unfold EdgeMode.ofByte?
  split_ifs <;> simp_all

theorem modeOfByte_eq_some {b : Byte} {m : EdgeMode} (h : EdgeMode.ofByte? b = some m) :
    m = if b = 0x00#8 then .rising else if b = 0x01#8 then .falling else .either := by
  unfold EdgeMode.ofByte? at h
  split_ifs at h ⊢ <;> cases h <;> rfl

theorem mirrors_checkSetLine (i : PortId) (line role mode : Byte) (s : State) :
    Mirrors (policyChecks i (decide (7 < line.toNat) || !([0x00#8, 0x01#8, 0x02#8].contains role)
        || !([0x00#8, 0x01#8, 0x02#8].contains mode)) s)
      (checkSetLine i line role mode s) := by
  rw [Bool.or_assoc]
  refine mirrors_policyChecks (.or (mirrors_require ?_) fun _ _ =>
    .or (mirrors_found (roleOfByte_isNone _).symm) fun _ _ =>
      .cons (mirrors_found (modeOfByte_isNone _).symm) fun _ _ => rfl)
  rw [← decide_not, decide_eq_decide, Nat.not_lt, Nat.succ_le_iff]

/-- The configuration that the checks of SET LINE read from its bytes (R172). -/
theorem checkSetLine_ok {line role mode : Byte} {x : LineConfig}
    (h : checkSetLine i line role mode s = .ok x) :
    x = ⟨if role = 0x00#8 then .unused else if role = 0x01#8 then .bindable else .tamper,
      if mode = 0x00#8 then .rising else if mode = 0x01#8 then .falling else .either⟩ := by
  simp only [checkSetLine, Checks.bind_eq_ok, found_eq_ok, Checks.pure_eq, Except.ok.injEq] at h
  obtain ⟨-, -, -, -, r, hr, m, hm, rfl⟩ := h
  rw [← roleOfByte_eq_some hr, ← modeOfByte_eq_some hm]

/-- The role and the edge mode of the line are set (R172). -/
theorem setLine_acts {line role mode : Byte} {l : List (Bool × ResultCode)}
    (hi : (s.port i).state = .idle) (hm : Mirrors l (checkSetLine i line role mode s))
    (hc : firstFailure l = none) :
    ∃ t, exec (.setLine i line role mode) s = .next t ∧ t.answered i .ok []
      ∧ t.policy.line line.toNat
          = ⟨if role = 0x00#8 then .unused else if role = 0x01#8 then .bindable else .tamper,
             if mode = 0x00#8 then .rising else if mode = 0x01#8 then .falling else .either⟩
      ∧ UnchangedBut (fun x => x = .line line.toNat ∨ x = .response i) s t := by
  obtain ⟨x, hx, he⟩ := acts_of_mirrors (c := .setLine i line role mode) hi rfl hm hc
  have hset : UnchangedBut (· = .line line.toNat) s { s with policy := { s.policy with
      lines := Table.store LineConfig.initial s.policy.lines line.toNat x } } :=
    unchangedBut_policy { line := fun n => ?_ }
  · exact ⟨_, he, State.answered_answer .., (Table.value_store_same ..).trans (checkSetLine_ok hx),
      hset.answer (fun _ => .inl) (.inr rfl)⟩
  · by_cases hn : n = line.toNat
    · exact .inl (congrArg Place.line hn)
    · exact .inr ((Table.value_store ..).trans (if_neg hn))

/-! ### LOCK POLICY -/

/-- LOCK POLICY has no parameter that could be out of range (R171). -/
theorem mirrors_lockPolicy (i : PortId) (s : State) :
    Mirrors (policyChecks i false s) (checkPolicy i s) := by
  rw [← bind_pure (checkPolicy i s)]
  exact (mirrors_checkPolicy i s).bind fun _ _ => rfl

/-- The phase becomes RUNNING, with which P and N are active (R21, R173). -/
theorem lockPolicy_acts (hi : (s.port i).state = .idle)
    (hc : firstFailure (policyChecks i false s) = none) :
    i = .pPort ∧ ∃ t, exec (.lockPolicy i) s = .next t ∧ t.answered i .ok []
      ∧ t.policy.phase = .running ∧ t.active .payment = true ∧ t.active .radio = true
      ∧ UnchangedBut (fun x => x = .phase ∨ x = .response i) s t := by
  obtain ⟨_, hx, he⟩ := acts_of_mirrors (c := .lockPolicy i) hi rfl (mirrors_lockPolicy i s) hc
  simp only [checkPolicy, Checks.bind_eq_ok, require_eq_ok, decide_eq_true_eq] at hx
  obtain ⟨-, hport, -⟩ := hx
  have hset : UnchangedBut (· = .phase) s
      { s with policy := { s.policy with phase := .running } } :=
    unchangedBut_policy { phase := .inl rfl }
  exact ⟨hport, _, he, State.answered_answer .., rfl, rfl, rfl,
    hset.answer (fun _ => .inl) (.inr rfl)⟩

/-- Settles O32: the four commands share their first two checks, and each writes its part of the policy. -/
theorem policySetAndLocked : Obligations.PolicySetAndLocked := by
  refine ⟨⟨?pools, ?quota, ?line⟩, fun i s hi => ⟨fun _ => refused_of_mirrors hi rfl
    (mirrors_lockPolicy i s), lockPolicy_acts hi⟩⟩
  case pools =>
    rintro i nReserve pReserve s _ hi rfl
    have hm := mirrors_checkSetPools i nReserve pReserve s
    exact ⟨fun _ => refused_of_mirrors hi rfl hm, setPools_acts hi hm⟩
  case quota =>
    rintro i cls windows pages s _ _ hi rfl rfl
    have hm := mirrors_checkSetQuota i cls windows pages s
    exact ⟨fun _ => refused_of_mirrors hi rfl hm, setQuota_acts hi hm⟩
  case line =>
    rintro i line role mode s _ hi rfl
    have hm := mirrors_checkSetLine i line role mode s
    exact ⟨fun _ => refused_of_mirrors hi rfl hm, setLine_acts hi hm⟩

end Sys2Proof.Machine
end

section
/-! SUPPORT. The device reset: what it leaves in every block, and the invariants on a part that is reset
(R169).
-/

namespace Sys2Proof.Machine

/-! ### Every block -/

/-- The part after a device reset (R169). -/
def State.restarted (s : State) (levels : BitVec 8) (flips : List BitFlip) : State :=
  { State.reset with
    pending := s.pending
    xm := s.xm.disturb flips
    events := ⟨levelsOf levels, [], 0, 0⟩ }

theorem exec_deviceReset (levels : BitVec 8) (flips : List BitFlip) (s : State) :
    exec (.deviceReset levels flips) s = .next (s.restarted levels flips) := rfl

theorem port_restarted (s : State) (levels : BitVec 8) (flips : List BitFlip) (i : PortId) :
    (s.restarted levels flips).port i = Port.reset := by
  cases i <;> rfl

/-- No requester waits after a device reset (R113, R170). -/
theorem requests_restarted (s : State) (levels : BitVec 8) (flips : List BitFlip) (r : Requester) :
    (s.restarted levels flips).requests r = false := by
  cases r with
  | port i => exact congrArg Port.requests (port_restarted s levels flips i)
  | moveEngine => rfl
  | retireEngine => rfl

/-- The app slots have one quota pair between them (R110). -/
theorem Policy.quota_slot (x : Policy) {slot : Fin 32} (h : slot ≠ 0) :
    x.quota (.app slot) = x.quotaApp := by
  simp [Policy.quota, h]

/-- Storing a value at each key of a list leaves it there, and every other key as it was. -/
theorem value_storeEach {α : Type} [DecidableEq α] (d : α) (f : Nat → α) (l : List Nat) (t : Table α)
    (n : Nat) :
    Table.value d (l.foldl (fun t k => Table.store d t k (f k)) t) n
      = if n ∈ l then f n else Table.value d t n := by
  induction l generalizing t with
  | nil => simp
  | cons k l ih =>
    rw [List.foldl_cons, ih, Table.value_store]
    by_cases hl : n ∈ l <;> by_cases hk : n = k <;> simp [hl, hk]

/-- Each detector takes the level that its line presents (R155). -/
theorem value_levelsOf (levels : BitVec 8) {n : Nat} (h : n < 8) :
    Table.value false (levelsOf levels) n = levels.getLsbD n :=
  (value_storeEach false levels.getLsbD (List.range 8) [] n).trans (if_pos (List.mem_range.2 h))

/-- Settles O48: each port is one that is reset, the detectors have the levels of their lines, and the rest of
the part is as `State.reset` has it. -/
theorem deviceResetState : Obligations.DeviceResetState := by
  intro levels flips s
  have hlevels (n : Nat) (hn : n < 8) := value_levelsOf levels hn
  have hslots (slot : Fin 32) (hslot : slot ≠ 0) : Policy.reset.quota (.app slot) = ⟨6, 64⟩ :=
    Policy.quota_slot _ hslot
  refine ⟨_, exec_deviceReset levels flips s, rfl, fun i => ?ports, rfl,
    fun _ => rfl, fun _ => rfl, fun _ => rfl, rfl,
    fun _ => rfl, fun _ => rfl, rfl, requests_restarted s levels flips,
    rfl, rfl, rfl, fun _ => rfl,
    rfl, ⟨_, rfl⟩, rfl,
    hlevels, rfl, rfl, rfl,
    rfl, rfl, rfl, rfl, rfl, rfl, hslots, fun _ => rfl⟩
  case ports =>
    simp only [State.column, port_restarted]
    exact ⟨rfl, fun _ => rfl, rfl, rfl, rfl, rfl, rfl, rfl⟩

/-! ### The invariants after reset -/

theorem tablesCanonical_reset : TablesCanonical State.reset :=
  ⟨rfl, rfl, rfl, rfl, rfl, rfl, rfl, rfl, fun i => by cases i <;> rfl⟩

theorem latchShut_reset : LatchShut State.reset := fun _ _ _ hw => nomatch hw

theorem phaseCoherent_reset : PhaseCoherent State.reset := by
  obtain ⟨hphase, -⟩ := workAccounted_reset
  exact hphase

theorem quotasRespected_reset : QuotasRespected State.reset :=
  ⟨fun _ _ => rfl, fun _ => ⟨Nat.zero_le _, Nat.zero_le _⟩⟩

theorem countersHeld_reset : CountersHeld State.reset := ⟨fun _ => rfl, fun _ hr => nomatch hr⟩

theorem windowsCoherent_reset : WindowsCoherent State.reset := fun _ _ hw => nomatch hw

theorem applicationUnmarked_reset : ApplicationUnmarked State.reset := ⟨rfl, fun _ hx => nomatch hx⟩

/-- Settles O60: with no window, no view and nothing in flight each invariant is about empty tables. -/
theorem invariantsHoldAtReset : Obligations.InvariantsHoldAtReset :=
  ⟨queuesBounded_reset, Memory.reset_wf, tablesCanonical_reset, latchShut_reset, phaseCoherent_reset,
    quotasRespected_reset, countersHeld_reset, grantTrees_iff.2 grantTable_nil, viewsAnchored_reset,
    rootsHeld_reset, windowsCoherent_reset, workAccounted_reset, pagesHeld_reset,
    applicationUnmarked_reset⟩

end Sys2Proof.Machine
end

section
/-! SUPPORT. The start-up scrub page by page, and its end (R170).
-/

namespace Sys2Proof.Machine

variable {s : State}

/-! ### The grant of a page -/

/-- A requester that waits alone is granted next (R113). -/
theorem nextGrant_of_alone {q : Requester} (hq : s.requests q = true)
    (halone : ∀ r, r ≠ q → s.requests r = false) : s.nextGrant = some q := by
  obtain ⟨g, hg, hwaits⟩ := exists_nextGrant hq
  by_cases hne : g = q
  · rw [hg, hne]
  · exact absurd ((halone g hne).symm.trans hwaits) Bool.false_ne_true

/-- The page of the start-up scrub is due when nothing else waits, whether its request is made in the grant
or was made before (R170). -/
theorem startupPage_of_alone {page : Nat} {stage : ScrubStage} (hs : s.retire.state = .startUp page stage)
    (hstage : stage = .toRequest ∨ stage = .requested)
    (halone : ∀ r, r ≠ .retireEngine → s.requests r = false) : s.startupPage = some page := by
  rcases hstage with rfl | rfl
  · have hg : ({ s with retire.state := .startUp page .requested } : State).nextGrant
        = some .retireEngine :=
      nextGrant_of_alone rfl fun r hr => (requests_withRetireState_other s _ hr).trans (halone r hr)
    have hgranted : ({ s with retire.state := .startUp page .requested } : State).granted .retireEngine
        = true := decide_eq_true hg
    simp only [State.startupPage, hs, if_pos hgranted]
  · have hg : s.nextGrant = some .retireEngine :=
      nextGrant_of_alone (by simp [State.requests, RetireEngine.requests, hs]) halone
    have hgranted : s.granted .retireEngine = true := decide_eq_true hg
    simp only [State.startupPage, hs, if_pos hgranted]

/-- A page of the start-up scrub granted: it is written with zeros, and its release is asked (R170). -/
def State.startupScrubbed (s : State) (page : Nat) : State :=
  { s.beginGrant .retireEngine [] with
    xm := s.xm.scrubPage page
    retire.state := .startUp page .scrubbed }

theorem exec_startupScrubGrant {page : Nat} (h : s.startupPage = some page) (hp : page < 2048) :
    exec .startupScrubGrant s = .next (s.startupScrubbed page) := by
  have hpage : page < Config.pageTotal := hp
  change execStartupScrubGrant s = _
  simp only [execStartupScrubGrant, h, if_pos hpage]
  rfl

theorem unchangedBut_startupScrubbed (s : State) (page : Nat) :
    UnchangedBut (fun x => x.inMemory ∨ x = .retireState ∨ x = .lastGranted) s
      (s.startupScrubbed page) :=
  ((unchangedBut_beginGrant s .retireEngine []).trans (unchangedBut_memory _ (s.xm.scrubPage page))
    (fun _ => id) fun _ => .inl).trans (unchangedBut_retireState _ (.startUp page .scrubbed))
    (fun _ h => h.imp_right .inr) fun _ h => .inr (.inl h)

/-! ### The release of a page -/

theorem unchangedBut_endReport (s : State) (x : Bool) :
    UnchangedBut (· = .endReport) s { s with retire.endReport := x } := by
  intro y hy
  cases y
  case endReport => exact absurd rfl hy
  case reserves => exact ⟨rfl, rfl⟩
  all_goals exact rfl

theorem page_setPage_same (s : State) (p : Nat) (x : PageState) : (s.setPage p x).page p = x :=
  (s.page_setPage p p x).trans (if_pos rfl)

/-- The release of a page that is not the last asks for the next (R170). -/
theorem exec_startupPageRelease_next {page : Nat} (hs : s.retire.state = .startUp page .scrubbed)
    (hp : page < 2047) :
    exec .startupPageRelease s
      = .next { s.setPage page .free with retire.state := .startUp (page + 1) .requested } := by
  have hnext : page + 1 < Config.pageTotal := Nat.succ_lt_succ hp
  change execStartupPageRelease s = _
  simp only [execStartupPageRelease, hs, if_pos hnext]

/-- The release of the last page ends the scrub and reports it (R170). -/
theorem exec_startupPageRelease_last (hs : s.retire.state = .startUp 2047 .scrubbed) :
    exec .startupPageRelease s
      = .next { s.setPage 2047 .free with retire.state := .idle, retire.endReport := true } := by
  change execStartupPageRelease s = _
  simp only [execStartupPageRelease, hs]
  rfl

/-! ### The end of the scrub -/

theorem exec_scrubEnd (h : s.retire.endReport = true) :
    exec .scrubEnd s = .next { s with
      policy.phase := .configuring, retire.endReport := false, ports := s.ports.allIdle } :=
  congrArg Host.Outcome.next (if_pos h)

/-- The ports are made IDLE one after the other. -/
theorem unchangedBut_allIdle (s : State) :
    UnchangedBut (fun x => ∃ i, x = .portState i) s { s with ports := s.ports.allIdle } := by
  have hport (u : State) (i : PortId) :
      UnchangedBut (fun x => ∃ i, x = .portState i) u (u.withPortState i .idle) :=
    (unchangedBut_withPortState u i .idle).mono fun _ h => ⟨i, h⟩
  exact ((hport s .pPort).trans (hport _ .nPort) (fun _ => id) fun _ => id).trans (hport _ .aPort)
    (fun _ => id) fun _ => id

/-- Settles O49: a page is scrubbed, then released with the next one asked for, until the last release
reports the end and the report makes the ports ready. -/
theorem startupScrubRuns : Obligations.StartupScrubRuns := by
  refine ⟨fun s page stage hs hstage hp halone => ?grant, fun s page hs hp => ?release,
    fun s hend => ?ended⟩
  case grant =>
    exact ⟨_, exec_startupScrubGrant (startupPage_of_alone hs hstage halone) hp,
      s.xm.scrubbed_scrubPage page, rfl, rfl, unchangedBut_startupScrubbed s page⟩
  case release =>
    have hfree := page_setPage_same s page .free
    have hreleased (x : RetireState) : UnchangedBut (fun y => y = .page page ∨ y = .retireState) s
        { s.setPage page .free with retire.state := x } :=
      (unchangedBut_setPage s page .free).trans (unchangedBut_retireState _ x) (fun _ => .inl)
        fun _ => .inr
    rcases Nat.lt_succ_iff_lt_or_eq.1 hp with hlt | rfl
    · exact ⟨_, exec_startupPageRelease_next hs hlt, hfree, fun _ => ⟨rfl, rfl⟩,
        fun e => absurd e hlt.ne, (hreleased _).mono fun _ h => h.imp_right .inl⟩
    · exact ⟨_, exec_startupPageRelease_last hs, hfree, fun h => absurd h (lt_irrefl _),
        fun _ => ⟨rfl, rfl⟩, (hreleased .idle).trans (unchangedBut_endReport _ true)
          (fun _ h => h.imp_right .inl) fun _ h => .inr (.inr h)⟩
  case ended =>
    have hphase : UnchangedBut (· = .phase) s
        { s with policy := { s.policy with phase := .configuring } } :=
      unchangedBut_policy { phase := .inl rfl }
    refine ⟨_, exec_scrubEnd hend, rfl, fun i => congrArg Port.state (s.ports.get_allIdle i), rfl, ?_⟩
    exact (hphase.trans (unchangedBut_endReport _ false) (r := fun x => x = .phase ∨ x = .endReport)
      (fun _ => .inl) fun _ => .inr).trans (unchangedBut_allIdle _)
      (fun _ h => h.imp_right .inr) fun _ h => .inr (.inl h)

end Sys2Proof.Machine
end

section
/-! SUPPORT. What a step does, by the queue of the commands and events that wait: the front one acts on the
part with the rest of the queue; on an empty queue the part idles (assumption 2).
-/

namespace Sys2Proof.Machine

variable {s : State} {c : Instr} {rest : List Instr}

/-! ### The queue with a command put at its front -/

@[simp] theorem State.withFront_pending (s : State) (c : Instr) :
    (s.withFront c).pending = c :: s.pending := rfl

/-- Taking a command off again that was put at the front leaves the part as it was. -/
theorem State.withFront_rest (s : State) (c : Instr) :
    { s.withFront c with pending := s.pending } = s := rfl

/-! ### A step by the queue -/

theorem step_of_pending_nil (h : s.pending = []) : step s = .next s := by
  simp only [step, h]

theorem step_of_pending_cons (h : s.pending = c :: rest) :
    step s = exec c { s with pending := rest } := by
  simp only [step, h]

theorem step_withFront (c : Instr) (s : State) : step (s.withFront c) = exec c s :=
  calc
    step (s.withFront c) = exec c { s.withFront c with pending := s.pending } :=
      step_of_pending_cons (s.withFront_pending c)
    _ = exec c s := congrArg (exec c) (s.withFront_rest c)

/-- Settles O1, by the equations of a step: a command put at the front comes off again before it runs. -/
theorem stepRunsFrontCommand : Obligations.StepRunsFrontCommand := by
  refine ⟨step_withFront, fun c rest s => ?front, fun _ hempty => step_of_pending_nil hempty⟩
  case front => exact step_of_pending_cons (s := { s with pending := c :: rest }) rfl

end Sys2Proof.Machine
end
